-- ==== Sys2Proof/Word.lean ====
section
/-! DEFINITION. The plain words of the model: bytes of the two serial lines, temperatures, and the numbers of the named objects. -/

namespace Sys2Proof

/-- One byte on the roof bus or one character on the host link (R195, R183). -/
abbrev Byte := BitVec 8

/-- A temperature in tenths of a degree ("computed exactly in tenths of a degree", R110). -/
abbrev Temp := Int

/-- Loops L0 to L3. -/
abbrev LoopId := Fin 4

/-- Coils C0 to C15. -/
abbrev CoilId := Fin 16

/-- Roof nodes N1 to N31: node Nk is number k - 1. -/
abbrev NodeId := Fin 31

/-- Pulse channels P0 to P5. -/
abbrev ChanId := Fin 6

/-- Discrete inputs D0 to D7. -/
abbrev InputId := Fin 8

/-- Slots 0 to 7 of a plan ring. -/
abbrev SlotId := Fin 8

/-- A set of coils: bit k stands for coil Ck (R127). -/
abbrev CoilSet := BitVec 16

/-- Every loop, in order. -/
def allLoops : List LoopId := List.finRange 4

/-- Every coil, in order of coil number. -/
def allCoils : List CoilId := List.finRange 16

/-- Every node, in address order. -/
def allNodes : List NodeId := List.finRange 31

/-- Every pulse channel, in order. -/
def allChans : List ChanId := List.finRange 6

/-- Every discrete input, in order. -/
def allInputs : List InputId := List.finRange 8

end Sys2Proof
end

