-- ==== Sys2Proof/Syntax.lean ====
section
/-! DEFINITION. The commands of the part: one constructor for each row of spec/opcode_table.json, with what the command carries. -/

namespace Sys2Proof

/-- One character as the host link's UART gives it. A framing error makes it a character that is not printable (R183). -/
structure HostChar where
  byte    : Byte
  framing : Bool
deriving DecidableEq, Repr

/-- One pair of a request line as it is written: key=value, or a pair without `=` (val is none and key holds the whole token) (R186). -/
structure Arg where
  key : String
  val : Option String
deriving DecidableEq, Repr

/-- The pins a change of level may come on: a discrete input, or the service input (R166, R168). -/
inductive Pin where
  | d (i : InputId)
  | svc
deriving DecidableEq, Repr

/-- The direction of a change of level on a pulse input (R163). -/
inductive Edge where
  | rise
  | fall
deriving DecidableEq, Repr

/-- The pin levels the part samples at power-on: high is true (R166, R168, R183). -/
structure PinLevels where
  strap1 : Bool
  strap2 : Bool
  inputs : BitVec 8
  svc    : Bool
  pulses : BitVec 6
deriving DecidableEq, Repr

/-- The commands. A request carries the tokens that follow its name on the line, in the order of the line.
Where the table splits one request by the value of a key (MODE_SET, RESET, COIL_AMEND, BUS_PASS), the constructor
stands for the request with that key and value written first, and carries the other tokens. -/
inductive Instr where
  -- starts and resets
  | powerOn (pins : PinLevels)
  | coldStart
  | warmReset
  | erase
  -- the host link
  | hostCharReceived (c : HostChar)
  | hostGapTimeout
  | badLine (line : List HostChar)
  | nameUnknown (name : String) (args : List Arg)
  | answerLineSent
  | noticeLine
  -- configuration records
  | siteGet (args : List Arg)
  | nodeGet (args : List Arg)
  | loopGet (args : List Arg)
  | coilGet (args : List Arg)
  | siteSet (args : List Arg)
  | nodeSet (args : List Arg)
  | loopSet (args : List Arg)
  | coilSet (args : List Arg)
  -- part mode, identity, store, resets asked for
  | modeSetRun (args : List Arg)
  | modeSetCommission (args : List Arg)
  | identitySet (args : List Arg)
  | storeSave (args : List Arg)
  | saveComplete (settingsMatch identityMatch : Bool)
  | resetWarm (args : List Arg)
  | resetCold (args : List Arg)
  | resetErase (args : List Arg)
  -- setpoint plans
  | planPut (args : List Arg)
  | planGet (args : List Arg)
  | planCommit (args : List Arg)
  | planRun (args : List Arg)
  | planPause (args : List Arg)
  | planSkip (args : List Arg)
  | planClear (args : List Arg)
  | planState (args : List Arg)
  | segmentEnd (l : LoopId)
  -- loops and pumps
  | pumpSwap (args : List Arg)
  | pumpClear (args : List Arg)
  | loopState (args : List Arg)
  | loopTick (l : LoopId)
  | proofTimeout (l : LoopId)
  | flowlossEnd (l : LoopId)
  | lowflowExpiry (l : LoopId)
  | holdoffExpiry (l : LoopId)
  -- rosters and coils
  | rosterGet (args : List Arg)
  | rosterOrder (args : List Arg)
  | rosterRotate (args : List Arg)
  | rotateTimerExpiry (l : LoopId)
  | coilAdmit (args : List Arg)
  | coilRetire (args : List Arg)
  | coilClear (args : List Arg)
  | coilState (args : List Arg)
  | strokeTimeout (c : CoilId)
  | stepDwellExpiry (c : CoilId)
  | admitTimeout (c : CoilId)
  | admitSkipExpiry (c : CoilId)
  | rundownExpiry (c : CoilId)
  | keepwarmTimerExpiry (c : CoilId)
  | kwDwellExpiry (c : CoilId)
  | shedTimerExpiry (c : CoilId)
  | shedCooldownExpiry (c : CoilId)
  -- frost monitor
  | frostState (args : List Arg)
  -- group requests and overrides
  | coilOut (args : List Arg)
  | coilIn (args : List Arg)
  | coilAmendPut (args : List Arg)
  | coilAmendAnd (args : List Arg)
  | coilAmendOr (args : List Arg)
  | coilAmendXor (args : List Arg)
  | coilLimits (args : List Arg)
  | coilMatch (args : List Arg)
  | overrideSet (args : List Arg)
  | overrideClear (args : List Arg)
  | overrideExpiry (c : CoilId)
  | overrideList (args : List Arg)
  -- the roof bus
  | busGrant
  | replyFrame (bytes : List Byte)
  | replyWindowExpiry
  | echoMismatch
  | busDownExpiry
  | roundStart
  | pointStale (n : NodeId) (p : Fin 4)
  | busPassRead (args : List Arg)
  | busPassWrite (args : List Arg)
  | busPassIdent (args : List Arg)
  | passWaitTimeout
  | nodeState (args : List Arg)
  | busState (args : List Arg)
  -- pulse channels, discrete inputs, outdoor temperature
  | pulseSet (args : List Arg)
  | pulseGet (args : List Arg)
  | pulseEdge (p : ChanId) (e : Edge) (micros : Nat)
  | gateEnd (p : ChanId)
  | inputSet (args : List Arg)
  | inputGet (args : List Arg)
  | inputPinChange (pin : Pin) (high : Bool)
  | debounceExpiry (pin : Pin)
  | outdoorSet (args : List Arg)
  | hostOutdoorExpiry
  | pulseState (args : List Arg)
  | inputState (args : List Arg)
  -- the trace ring
  | traceRelease (args : List Arg)
  | traceCut (args : List Arg)
  | traceRead (args : List Arg)
  | traceState (args : List Arg)
  -- notices, identity, status
  | noticeEnable (args : List Arg)
  | noticeClear (args : List Arg)
  | identify (args : List Arg)
  | status (args : List Arg)
  -- the part's clock, and a gap inside a roof reply
  | uptimeSecond
  | replyByteGap
deriving DecidableEq, Repr

end Sys2Proof
end

