-- ==== Sys2Proof/Decode.lean ====
section
/-! DEFINITION. The command a word spells by the bits of spec/opcode_table.json. The table gives no row bits (the part is commanded by
text lines, frames and pins), so no word spells a command. -/

namespace Sys2Proof

/-- No row of the table has bits: none. -/
def decodeTableWord (_nbits _w : Nat) : Option Instr := none

end Sys2Proof
end

