-- ==== Sys2Proof/Config.lean ====
section
/-! DEFINITION. What one part fixes: the capacities and fixed times the manual states, and the one thing it leaves to the silicon. -/

namespace Sys2Proof.Config

/-- The silicon revision letter IDENTIFY reports (R191). The manual does not say which letter: an uninterpreted constant. -/
opaque revision : String

/-- Entries in one trace half (R173). -/
abbrev halfSize : Nat := 256

/-- The largest missed count, blind count and fill serial (R47, R173). -/
abbrev countMax : Nat := 65535

/-- Most printable characters of a host line's content part (R184, R194). -/
abbrev lineMax : Nat := 200

/-- Seconds the roof bus rests DOWN after three LINE_ERROR outcomes (R151). -/
abbrev downSeconds : Nat := 5

/-- Seconds a pass-through request waits for its grant (R158). -/
abbrev passWaitSeconds : Nat := 2

/-- Grants in a row that may go past a waiting poller (R154). -/
abbrev shareMax : Nat := 6

/-- Milliseconds of SVC's fixed debounce (R168). -/
abbrev svcDebounce : Nat := 200

/-- Microseconds in one second: the length of a gate (R163). -/
abbrev microsPerSecond : Nat := 1000000

end Sys2Proof.Config
end

