-- ==== Sys2Proof/Machine/State.lean ====
section
/-! DEFINITION. The state of the part as plain data, block by block, the reasons a step can stop, and the state after reset. -/

namespace Sys2Proof.Machine

/-! ## Configuration records (chapter 1, R162, R166) -/

/-- A roof bus point, node.point (R186). -/
structure PointRef where
  node  : NodeId
  point : Nat
deriving DecidableEq, Repr

/-- The role of a node record (R4). -/
inductive NodeRole where
  | none | fan | valve | pump | sensor
deriving DecidableEq, Repr

/-- Where a loop's flow value comes from (R5, R6). -/
inductive FlowSource where
  | pulse (p : ChanId)
  | point (pt : PointRef)
deriving DecidableEq, Repr

/-- The site record (R3). -/
structure SiteRec where
  outdoorPt    : Option PointRef
  outdoorPulse : Option ChanId
  busRate      : Nat
  replyWindow  : Nat
  staleLimit   : Nat
  roundSpacing : Nat
  autorun      : Bool
deriving DecidableEq, Repr

/-- A node record (R4). -/
structure NodeRec where
  role     : NodeRole
  channels : Nat
deriving DecidableEq, Repr

/-- A loop record (R5): temperatures in tenths, times in seconds. -/
structure LoopRec where
  inUse          : Bool
  freeze         : Temp
  watchMargin    : Temp
  tripMargin     : Temp
  frostHyst      : Temp
  floor          : Temp
  minFlow        : Nat
  pumpA          : Option NodeId
  pumpB          : Option NodeId
  bypass         : Option NodeId
  supplyPt       : Option PointRef
  returnPt       : Option PointRef
  flowSrc        : Option FlowSource
  prove          : Nat
  flowlossTime   : Nat
  fallbackTarget : Temp
  fallbackBand   : Temp
  tick           : Nat
  fanStep        : Nat
  bypassStep     : Nat
  holdoff        : Nat
  admitSteps     : Nat
  stepDwell      : Nat
  slug           : Temp
  admitTimeout   : Nat
  rundown        : Nat
  strokeTimeout  : Nat
  kwThreshold    : Temp
  kwInterval     : Nat
  kwDwell        : Nat
  kwPosition     : Nat
  kwConcurrency  : Nat
  shedSpeed      : Nat
  shedTime       : Nat
  shedCooldown   : Nat
  icingLimit     : Nat
  rotateInterval : Nat
  sampleEvery    : Nat
deriving DecidableEq, Repr

/-- The option set of a coil (R8, R133). -/
structure CoilOptions where
  shedOk     : Bool
  keepwarmOk : Bool
  reverseOk  : Bool
deriving DecidableEq, Repr

/-- A coil record (R8). -/
structure CoilRec where
  loop      : Option LoopId
  fanNode   : Option NodeId
  valveNode : Option NodeId
  outletPt  : Option PointRef
  icingPt   : Option PointRef
  fanMin    : Nat
  fanMax    : Nat
  options   : CoilOptions
  withdrawn : Bool
deriving DecidableEq, Repr

/-- The mode of a pulse channel (R162). -/
inductive ChanMode where
  | off | count | period | width
deriving DecidableEq, Repr

/-- A channel record (R162); scale in tenths of a pulse per litre. -/
structure ChanRec where
  mode    : ChanMode
  edge    : Edge
  scale   : Nat
  silence : Nat
deriving DecidableEq, Repr

/-- Which changes of an input raise the INPUT source (R166). -/
inductive InputNotice where
  | none | rise | fall | both
deriving DecidableEq, Repr

/-- The role of a discrete input (R166). -/
inductive InputRole where
  | none | plantStop | snowWarn | general
deriving DecidableEq, Repr

/-- An input record (R166); activeHigh is level = HIGH, debounce in milliseconds. -/
structure InputRec where
  activeHigh : Bool
  debounce   : Nat
  notice     : InputNotice
  role       : InputRole
deriving DecidableEq, Repr

/-- All that one settings section of the image holds, and the working copy of it (R18, R20). -/
structure Settings where
  site    : SiteRec
  nodes   : Vector NodeRec 31
  loops   : Vector LoopRec 4
  coils   : Vector CoilRec 16
  chans   : Vector ChanRec 6
  inputs  : Vector InputRec 8
  rosters : Vector (List CoilId) 4
deriving DecidableEq, Repr

/-- Defaults of the site record (R3). -/
def SiteRec.default : SiteRec :=
  { outdoorPt := none, outdoorPulse := none, busRate := 19200, replyWindow := 40, staleLimit := 30,
    roundSpacing := 1, autorun := false }

/-- Defaults of a node record (R4). -/
def NodeRec.default : NodeRec := { role := .none, channels := 1 }

/-- Defaults of a loop record (R5). -/
def LoopRec.default : LoopRec :=
  { inUse := false, freeze := -250, watchMargin := 80, tripMargin := 30, frostHyst := 10, floor := 80, minFlow := 0,
    pumpA := none, pumpB := none, bypass := none, supplyPt := none, returnPt := none, flowSrc := none,
    prove := 30, flowlossTime := 15, fallbackTarget := 120, fallbackBand := 5, tick := 10, fanStep := 5, bypassStep := 10,
    holdoff := 300, admitSteps := 4, stepDwell := 120, slug := 15, admitTimeout := 1800, rundown := 30, strokeTimeout := 90,
    kwThreshold := -150, kwInterval := 3600, kwDwell := 300, kwPosition := 20, kwConcurrency := 2,
    shedSpeed := 60, shedTime := 120, shedCooldown := 3600, icingLimit := 40, rotateInterval := 0, sampleEvery := 6 }

/-- Defaults of a coil record (R8): all three options. -/
def CoilRec.default : CoilRec :=
  { loop := none, fanNode := none, valveNode := none, outletPt := none, icingPt := none, fanMin := 20, fanMax := 100,
    options := { shedOk := true, keepwarmOk := true, reverseOk := true }, withdrawn := false }

/-- Defaults of a channel record (R162). -/
def ChanRec.default : ChanRec := { mode := .off, edge := .rise, scale := 10, silence := 10 }

/-- Defaults of an input record (R166). -/
def InputRec.default : InputRec := { activeHigh := true, debounce := 50, notice := .none, role := .none }

/-- The working copy when no settings section verifies (R20): every record its defaults, every roster empty, autorun no. -/
def Settings.default : Settings :=
  { site := .default, nodes := Vector.replicate 31 .default, loops := Vector.replicate 4 .default,
    coils := Vector.replicate 16 .default, chans := Vector.replicate 6 .default, inputs := Vector.replicate 8 .default,
    rosters := Vector.replicate 4 [] }

/-! ## Part mode, identity and store (chapter 1) -/

/-- The part mode (R11). -/
inductive PartMode where
  | commission | run
deriving DecidableEq, Repr

/-- The identity record's fields (R15): an empty site and no cabinet while nothing has been given. -/
structure IdentityData where
  site    : String
  cabinet : Option Nat
deriving DecidableEq, Repr

/-- The identity record: its fields and whether its state is SET (else BLANK) (R15). -/
structure Identity where
  data : IdentityData
  set  : Bool
deriving DecidableEq, Repr

/-- One section of the non-volatile image: never written or erased, not verifying (or being rewritten), or verifying
with its contents. For the settings section the three are the store states BLANK, INVALID, VALID (R16). -/
inductive Section (α : Type) where
  | blank
  | invalid
  | valid (a : α)
deriving DecidableEq, Repr

/-- A save in progress: the image taken at acceptance (R18); identity is given for an identity save. -/
structure SaveJob where
  settings : Settings
  identity : Option IdentityData
deriving DecidableEq, Repr

/-- The configuration store: the two sections of the image, and the activity (SAVING while there is a job) (R16). -/
structure Store where
  settings : Section Settings
  identity : Section IdentityData
  saving   : Option SaveJob
deriving DecidableEq, Repr

/-! ## Timers -/

/-- A timer of whole seconds. A stopped holdoff is the elapsed one (R47, R82). -/
inductive Timer where
  | stopped
  | running (left : Nat)
  | paused (left : Nat)
deriving DecidableEq, Repr

/-- The rundown timer, which may have expired and be waiting (R82, R96). -/
inductive RundownTimer where
  | stopped
  | running (left : Nat)
  | expiredWaiting
deriving DecidableEq, Repr

/-! ## Setpoint plans (chapter 2) -/

/-- A plan segment (R26): durations and ramps in minutes. -/
structure Segment where
  target   : Temp
  band     : Temp
  ceiling  : Nat
  minCoils : Nat
  maxCoils : Nat
  duration : Nat
  ramp     : Nat
  notify   : Bool
deriving DecidableEq, Repr

/-- The plan states (R25). -/
inductive PlanState where
  | empty | paused | active | holding | stopped
deriving DecidableEq, Repr

/-- The verdict of a prepare check (R25, R34). -/
inductive Verdict where
  | none | pass | target | coils
deriving DecidableEq, Repr

/-- One loop's plan ring (R25). -/
structure Plan where
  slots     : Vector (Option Segment) 8
  state     : PlanState
  cur       : SlotId
  last      : SlotId
  prep      : SlotId
  verdict   : Verdict
  elapsed   : Nat
  rampStart : Option Temp
deriving DecidableEq, Repr

/-- A plan ring as every cold start sets it (R45). -/
def Plan.blank : Plan :=
  { slots := Vector.replicate 8 none, state := .empty, cur := 0, last := 0, prep := 0, verdict := .none, elapsed := 0,
    rampStart := none }

/-! ## Loop regulator (chapter 3) -/

/-- The loop states (R46). -/
inductive LoopState where
  | idle | starting | running | failover | flowloss
deriving DecidableEq, Repr

/-- Why a loop is in FAILOVER (R46). -/
inductive FailReason where
  | fault | planned
deriving DecidableEq, Repr

/-- The two pumps of a loop (R48). -/
inductive PumpId where
  | a | b
deriving DecidableEq, Repr

/-- What the regulator holds of one pump: health, desired run, and whether its run point is unsent (R48, R72). -/
structure Pump where
  faulted : Bool
  run     : Bool
  unsent  : Bool
deriving DecidableEq, Repr

/-- The items of the start check (R12). -/
inductive CheckItem where
  | pumpA | pumpB | bypass | supply | coils
deriving DecidableEq, Repr

/-- What the regulator holds of one loop (R46, R47, R48, R72), with the record's read-only fault and check (R5, R12). -/
structure LoopSt where
  state        : LoopState
  reason       : Option FailReason
  duty         : PumpId
  pumpA        : Pump
  pumpB        : Pump
  fanStep      : Nat
  bypass       : Nat
  bypassUnsent : Bool
  blind        : Bool
  cold         : Bool
  satWarm      : Bool
  satCold      : Bool
  blindCount   : Nat
  holdoff      : Timer
  proof        : Timer
  lowflow      : Timer
  tick         : Timer
  sampleCount  : Nat
  configFault  : Bool
  check        : List CheckItem
deriving DecidableEq, Repr

/-- A loop at cold start (R47, R48, R74). -/
def LoopSt.cold0 : LoopSt :=
  { state := .idle, reason := none, duty := .a, pumpA := ⟨false, false, false⟩, pumpB := ⟨false, false, false⟩,
    fanStep := 0, bypass := 100, bypassUnsent := false, blind := false, cold := false, satWarm := false, satCold := false,
    blindCount := 0, holdoff := .stopped, proof := .stopped, lowflow := .stopped, tick := .stopped, sampleCount := 0,
    configFault := false, check := [] }

/-! ## Coil unit (chapters 4 and 6) -/

/-- The kinds of keep-warm cycle (R81). -/
inductive KwKind where
  | scheduled | emergency
deriving DecidableEq, Repr

/-- The phases of a retirement (R81). -/
inductive RetirePhase where
  | rundown | closing
deriving DecidableEq, Repr

/-- The causes of a coil fault (R105). -/
inductive FaultCause where
  | node | lost | stroke | fan | valve
deriving DecidableEq, Repr

/-- The service states with their sub-phases (R81). An ADMITTING coil carries its step, whether its dwell runs (else it
waits for the valve), and whether it is HELD: its phase is HELD if held, else DWELL or STROKE. -/
inductive Service where
  | dormant
  | out
  | isolated
  | keepwarm (kind : KwKind)
  | admitting (step : Nat) (dwelling held : Bool)
  | serving
  | shedding
  | retiring (phase : RetirePhase) (outFlag : Bool)
  | faulted (cause : FaultCause)
deriving DecidableEq, Repr

/-- The frost states (R109). -/
inductive FrostState where
  | clear | watch | trip | unknown
deriving DecidableEq, Repr

/-- What the coil unit holds of one coil (R81, R82, R89, R116, R131). -/
structure CoilSt where
  service      : Service
  desiredValve : Option Nat
  settled      : Bool
  desiredFan   : Int
  stroke       : Timer
  dwell        : Timer
  admission    : Timer
  skip         : Timer
  admitRef     : Option Temp
  admitTotal   : Nat
  admitBegan   : Nat
  rundown      : RundownTimer
  kwTimer      : Timer
  kwDwell      : Timer
  shed         : Timer
  cooldown     : Timer
  fanUnsent    : Bool
  valveUnsent  : Bool
  frostGiven   : FrostState
deriving DecidableEq, Repr

/-- A coil at cold start (R108). That a DORMANT coil, which has no desired valve position, reads settled=no is the model's reading
(assumption 30). -/
def CoilSt.cold0 : CoilSt :=
  { service := .dormant, desiredValve := none, settled := false, desiredFan := 0, stroke := .stopped, dwell := .stopped,
    admission := .stopped, skip := .stopped, admitRef := none, admitTotal := 0, admitBegan := 0, rundown := .stopped,
    kwTimer := .stopped, kwDwell := .stopped, shed := .stopped, cooldown := .stopped, fanUnsent := false,
    valveUnsent := false, frostGiven := .unknown }

/-- What the coil unit holds of one loop beside its roster, which is configuration (R82). -/
structure LoopCoils where
  rotation   : Timer
  deferred   : Bool
  kwQueue    : List CoilId
  kwCount    : Nat
  shedQueue  : List CoilId
  permit     : Option CoilId
  lastSupply : Option Temp
deriving DecidableEq, Repr

/-- The coil unit's record of a loop at cold start (R108). -/
def LoopCoils.cold0 : LoopCoils :=
  { rotation := .stopped, deferred := false, kwQueue := [], kwCount := 0, shedQueue := [], permit := none, lastSupply := none }

/-- The kinds of override (R136). -/
inductive OverrideKind where
  | fan (value : Nat)
  | hold
deriving DecidableEq, Repr

/-- An entry of the override table (R136): expiry is an uptime second. -/
structure Override where
  kind   : OverrideKind
  expiry : Option Nat
deriving DecidableEq, Repr

/-! ## Frost monitor (chapter 5) -/

/-- The cause of the last change of a frost state (R109). -/
inductive FrostCause where
  | reading | stale | absent | limits | binding | start
deriving DecidableEq, Repr

/-- The frost monitor's record of one coil (R109). -/
structure FrostRec where
  state : FrostState
  value : Option Temp
  since : Nat
  cause : FrostCause
deriving DecidableEq, Repr

/-- A frost record at cold start (R126). -/
def FrostRec.cold0 : FrostRec := { state := .unknown, value := none, since := 0, cause := .start }

/-- The loop frost summary (R121). -/
inductive Summary where
  | normal | guarded | tripped
deriving DecidableEq, Repr

/-! ## Roof bus master (chapter 7) -/

/-- The kinds of transaction (R195). -/
inductive TxKind where
  | read | write | ident
deriving DecidableEq, Repr

/-- The outcomes of a transaction (R141). -/
inductive BusOutcome where
  | lineError | timeout | badFrame | refused | good
deriving DecidableEq, Repr

/-- The status a node answers with (R195). -/
inductive BusStatus where
  | accept | refuse | driveFault
deriving DecidableEq, Repr

/-- The node states (R143). -/
inductive NodeState where
  | unseen | online | suspect | offline | wrongRole
deriving DecidableEq, Repr

/-- The freshness of a point (R149). -/
inductive Freshness where
  | fresh | stale | absent
deriving DecidableEq, Repr

/-- What the master holds of one point (R149). -/
structure PointEntry where
  value  : Option Int
  readAt : Option Nat
  fresh  : Freshness
deriving DecidableEq, Repr

/-- A point never read (R161). -/
def PointEntry.absent0 : PointEntry := { value := none, readAt := none, fresh := .absent }

/-- Whether a command for an output point stands in a queue, is on the line, or neither (R152). -/
inductive ShadowState where
  | settled | queued | inFlight
deriving DecidableEq, Repr

/-- The output shadow of a node's point 0 (R152). -/
structure Shadow where
  desired : Option Int
  sent    : Option Int
  state   : ShadowState
deriving DecidableEq, Repr

/-- A shadow that has never had a request (R159, R161). -/
def Shadow.blank : Shadow := { desired := none, sent := none, state := .settled }

/-- One entry of the node table (R143), with the node's points (R149) and the shadow of its output point (R152). -/
structure NodeEntry where
  state       : NodeState
  miss        : Nat
  reported    : Option Int
  lastOutcome : Option BusOutcome
  lastStatus  : Option BusStatus
  lastHeard   : Option Nat
  points      : Vector PointEntry 4
  shadow      : Shadow
deriving DecidableEq, Repr

/-- A node entry at cold start (R161). -/
def NodeEntry.cold0 : NodeEntry :=
  { state := .unseen, miss := 0, reported := none, lastOutcome := none, lastStatus := none, lastHeard := none,
    points := Vector.replicate 4 .absent0, shadow := .blank }

/-- The two command queues (R153). -/
inductive Urgency where
  | urgent | routine
deriving DecidableEq, Repr

/-- A queued command for point 0 of a node (R153, R155). -/
structure Entry where
  node     : NodeId
  value    : Int
  refusals : Nat
deriving DecidableEq, Repr

/-- Who was granted the line (R154). A command remembers its queue and its refusal count, and whether its owner's claim
has lapsed by a change to COMMISSION (R13). -/
inductive Requester where
  | command (u : Urgency) (refusals : Nat) (lapsed : Bool)
  | pass
  | poller
deriving DecidableEq, Repr

/-- The transaction in flight (R141, R142); window is the reply_window taken at the grant. -/
structure Flight where
  src    : Requester
  kind   : TxKind
  node   : NodeId
  point  : Nat
  value  : Int
  window : Nat
deriving DecidableEq, Repr

/-- A pass-through request (R157). -/
structure PassReq where
  kind  : TxKind
  node  : NodeId
  point : Nat
  value : Int
deriving DecidableEq, Repr

/-- The pass-through slot (R158). -/
inductive PassSlot where
  | empty
  | waiting (r : PassReq) (left : Nat)
  | inFlight (r : PassReq)
deriving DecidableEq, Repr

/-- Whether the poller is waiting for the line or its round spacing runs (R148). -/
inductive PollPhase where
  | waiting
  | spacing (left : Nat)
deriving DecidableEq, Repr

/-- The poller (R147, R148): the round number, and the node (by index) and step within the node from which its next
transaction is sought. -/
structure Poller where
  round : Nat
  phase : PollPhase
  node  : Nat
  step  : Nat
deriving DecidableEq, Repr

/-- UP, or DOWN with the seconds left on the DOWN timer (R151). -/
inductive LineState where
  | up
  | down (left : Nat)
deriving DecidableEq, Repr

/-- The roof bus master beside the node table (R161). rx holds the bytes of the reply received so far (R141); lost holds
COMMAND_LOST reports on their way to their owners within one command (assumption 5). -/
structure Bus where
  rate       : Nat
  line       : LineState
  lineErrors : Nat
  urgent     : List Entry
  routine    : List Entry
  flight     : Option Flight
  rx         : List Byte
  pass       : PassSlot
  poller     : Poller
  share      : Nat
  lost       : List NodeId
deriving DecidableEq, Repr

/-- The roof bus master at cold start, at the given rate (R161). -/
def Bus.cold0 (rate : Nat) : Bus :=
  { rate := rate, line := .up, lineErrors := 0, urgent := [], routine := [], flight := none, rx := [], pass := .empty,
    poller := { round := 0, phase := .waiting, node := 0, step := 0 }, share := 0, lost := [] }

/-! ## Input unit (chapter 8) -/

/-- The status of a pulse channel (R165). -/
inductive ChanStatus where
  | off | silent | valid | overrange
deriving DecidableEq, Repr

/-- A pulse channel's measurement (R163 to R165). Times of edges are microseconds of uptime; gateStart and restartedAt are
uptime seconds. levelSince is when the pin took the level it stands at, 0 from a cold start on; periodEdge is the edge the next PERIOD
interval starts from, interval the one ended in this gate. -/
structure Chan where
  pin         : Bool
  levelSince  : Nat
  status      : ChanStatus
  value       : Option Nat
  count       : Nat
  lastCount   : Nat
  lastEdge    : Option Nat
  periodEdge  : Option Nat
  interval    : Option Nat
  activeSince : Option Nat
  activeTime  : Nat
  gateStart   : Nat
  restartedAt : Nat
deriving DecidableEq, Repr

/-- A discrete input or SVC: the pin, the debounced pin level, and the milliseconds its running debounce timer was
started with (R166, R168). -/
structure Contact where
  pin       : Bool
  debounced : Bool
  timer     : Option Nat
deriving DecidableEq, Repr

/-- The host-supplied outdoor value (R170). -/
structure HostOutdoor where
  value  : Temp
  expiry : Nat
deriving DecidableEq, Repr

/-- The selected outdoor temperature with its source (R169). -/
inductive Outdoor where
  | point (t : Temp)
  | pulse (t : Temp)
  | host (t : Temp)
  | unknown
deriving DecidableEq, Repr

/-- The input unit (R172). -/
structure Inputs where
  chans     : Vector Chan 6
  contacts  : Vector Contact 8
  svc       : Contact
  plantStop : Bool
  snowWarn  : Bool
  host      : Option HostOutdoor
  outdoor   : Outdoor
deriving DecidableEq, Repr

/-! ## Values in replies, notices and trace entries -/

/-- A value of a reply key or of a trace detail, written in the forms of R186 and R194. -/
inductive Val where
  | none
  | unknown
  | word (w : String)
  | words (ws : List String)
  | int (n : Int)
  | temp (t : Temp)
  | mask (m : CoilSet)
  | yesNo (b : Bool)
deriving DecidableEq, Repr

/-- A key with its value. -/
abbrev Field := String × Val

/-! ## Trace unit (chapter 9) -/

/-- What a trace entry concerns (R174). -/
inductive Subject where
  | loop (l : LoopId)
  | coil (c : CoilId)
  | node (n : NodeId)
  | point (n : NodeId) (p : Nat)
  | chan (p : ChanId)
  | input (i : InputId)
  | svc
  | outdoor
  | part
  | store
  | bus
  | trace
deriving DecidableEq, Repr

/-- The nineteen event codes (R174). -/
inductive EventCode where
  | mode | store | loop | pump | blind | segment | holding | prepare | coil | admitDone | admitAbort | retireDone
  | override | frost | node | bus | commandLost | input | pulse
deriving DecidableEq, Repr

/-- The fields of a SAMPLE entry (R75). -/
structure Sample where
  sup  : Option Temp
  ret  : Option Temp
  flow : Option Int
  tgt  : Temp
  fan  : Nat
  byp  : Nat
  srv  : Nat
  plan : PlanState
deriving DecidableEq, Repr

/-- What an entry carries by its kind (R174). -/
inductive TraceBody where
  | sample (x : Sample)
  | event (code : EventCode) (detail : List Field)
  | gap (missed since : Nat)
deriving DecidableEq, Repr

/-- A trace entry: the uptime at which it was written, its subject, its body (R174). -/
structure TraceEntry where
  t    : Nat
  subj : Subject
  body : TraceBody
deriving DecidableEq, Repr

/-- The states of a trace half (R173). -/
inductive HalfState where
  | free | filling | full
deriving DecidableEq, Repr

/-- A trace half: its fill count is the number of its entries (R173). -/
structure Half where
  state   : HalfState
  entries : List TraceEntry
  serial  : Nat
deriving DecidableEq, Repr

/-- H0 and H1. -/
inductive HalfId where
  | h0 | h1
deriving DecidableEq, Repr

/-- The writer: WRITING in a half, at the index equal to its fill count, or LOCKED since an uptime second (R173). -/
inductive Writer where
  | writing (h : HalfId)
  | locked (since : Nat)
deriving DecidableEq, Repr

/-- The trace unit (R173). -/
structure Trace where
  h0     : Half
  h1     : Half
  next   : Nat
  writer : Writer
  missed : Nat
deriving DecidableEq, Repr

/-- The trace ring as every reset sets it (R182). -/
def Trace.reset : Trace :=
  { h0 := ⟨.filling, [], 1⟩, h1 := ⟨.free, [], 0⟩, next := 2, writer := .writing .h0, missed := 0 }

/-! ## Notice unit and host link (chapter 10) -/

/-- The twelve notice sources, in the order of the table of chapter 10 (R189). -/
inductive Source where
  | trace | plan | frost | pump | coil | node | bus | input | pulse | override | store | mode
deriving DecidableEq, Repr

/-- The notice unit (R189); the two sets are lists in the order of the table, without repeats. -/
structure Notice where
  pending : List Source
  enabled : List Source
  due     : Bool
deriving DecidableEq, Repr

/-- The status of a reply (R188). -/
inductive Status where
  | ok | busy | refused | badArg | unknown | timeout
deriving DecidableEq, Repr

/-- The causes of a line error (R194). -/
inductive LineCause where
  | check | length | gap | syn
deriving DecidableEq, Repr

/-- One placement with the transmitter (R187): a reply with its continuation lines (none for a one-line reply), a line
error, or a notice line. -/
inductive Placement where
  | reply (name : String) (status : Status) (keys : List Field) (lines : Option (List (List Field)))
  | err (cause : LineCause)
  | notice (sources : List Source)
deriving DecidableEq, Repr

/-- The line receiver (R184). -/
inductive Receiver where
  | idle
  | receiving (line : List HostChar)
  | discarding
deriving DecidableEq, Repr

/-- The kinds of RESET (R21). -/
inductive ResetKind where
  | warm | cold | erase
deriving DecidableEq, Repr

/-- The host link (R187, R193): the receiver, the placements being sent in order, the answer place, a RESET accepted whose
reply is still being sent, and the line's rate (R183). -/
structure Link where
  receiver     : Receiver
  tx           : List Placement
  answer       : Option Placement
  resetPending : Option ResetKind
  rate         : Nat
deriving DecidableEq, Repr

/-! ## The whole part -/

/-- The state of the part. -/
structure State where
  mode      : PartMode
  uptime    : Nat
  cfg       : Settings
  identity  : Identity
  store     : Store
  plans     : Vector Plan 4
  loops     : Vector LoopSt 4
  units     : Vector LoopCoils 4
  coils     : Vector CoilSt 16
  overrides : Vector (Option Override) 16
  frost     : Vector FrostRec 16
  summaries : Vector Summary 4
  bus       : Bus
  nodes     : Vector NodeEntry 31
  inputs    : Inputs
  trace     : Trace
  notice    : Notice
  link      : Link
  pending   : List Instr
deriving DecidableEq, Repr

/-- Reasons a step can stop with a fault. The part itself never stops: a request it cannot perform is answered (R188), a
garbled line gets an error line (R185), a failed transaction has an outcome (R141). No constructor, so no meaning can fault. -/
inductive Fault
deriving DecidableEq, Repr

/-- Reasons a step can be refused. -/
inductive Refusal where
  /-- Raised by exec's arm of a command that has no meaning yet; safe, since nothing is then proved of it. -/
  | notModelled (mnemonic : String)
deriving DecidableEq, Repr

/-! ## The state after reset -/

/-- A pulse channel after the restart of a cold start in mode OFF, with its pin low (R165, R172). -/
def Chan.off0 : Chan :=
  { pin := false, levelSince := 0, status := .off, value := none, count := 0, lastCount := 0, lastEdge := none, periodEdge := none,
    interval := none, activeSince := none, activeTime := 0, gateStart := 0, restartedAt := 0 }

/-- The input unit of a part with default records whose pins are all low but SVC, which is high (inactive) (assumption 4). -/
def Inputs.reset : Inputs :=
  { chans := Vector.replicate 6 .off0, contacts := Vector.replicate 8 ⟨false, false, none⟩, svc := ⟨true, true, none⟩,
    plantStop := false, snowWarn := false, host := none, outdoor := .unknown }

/-- The seven entries of a cold start into COMMISSION with every channel OFF (R165, R182). -/
def Trace.firstEntries : List TraceEntry :=
  allChans.map (fun p =>
    ⟨0, .chan p, .event .pulse [("cause", .word "START")]⟩) ++
  [⟨0, .part, .event .mode [("cause", .word "START")]⟩]

/-- The part right after power-on with an image that was never written, straps low, and the pins of Inputs.reset
(R20, assumption 4): default records, COMMISSION, every block at its cold-start values; round 0, with every node NONE, has ended as it began
(R148). -/
def State.reset : State :=
  { mode := .commission
    uptime := 0
    cfg := .default
    identity := { data := { site := "", cabinet := none }, set := false }
    store := { settings := .blank, identity := .blank, saving := none }
    plans := Vector.replicate 4 .blank
    loops := Vector.replicate 4 .cold0
    units := Vector.replicate 4 .cold0
    coils := Vector.replicate 16 .cold0
    overrides := Vector.replicate 16 none
    frost := Vector.replicate 16 .cold0
    summaries := Vector.replicate 4 .normal
    bus := { Bus.cold0 19200 with poller := { round := 1, phase := .spacing 1, node := 0, step := 0 } }
    nodes := Vector.replicate 31 .cold0
    inputs := .reset
    trace := { Trace.reset with h0 := ⟨.filling, Trace.firstEntries, 1⟩ }
    notice := { pending := [], enabled := [], due := false }
    link := { receiver := .idle, tx := [], answer := none, resetPending := none, rate := 19200 }
    pending := [] }

end Sys2Proof.Machine
end

