-- ==== Sys2Proof/Machine/Names.lean ====
section
/-! DEFINITION. The names the host link uses for loops, coils, nodes, states, causes and codes, as the rules spell them. -/

namespace Sys2Proof.Machine

/-! ## Objects (00_scope.md, "Names of things") -/

def loopName (l : LoopId) : String := "L" ++ toString l.val
def coilName (c : CoilId) : String := "C" ++ toString c.val
def nodeName (n : NodeId) : String := "N" ++ toString (n.val + 1)
def chanName (p : ChanId) : String := "P" ++ toString p.val
def inputName (i : InputId) : String := "D" ++ toString i.val
def pointName (n : NodeId) (p : Nat) : String := nodeName n ++ "." ++ toString p
def PointRef.name (pt : PointRef) : String := pointName pt.node pt.point

def PumpId.name : PumpId → String
  | .a => "A"
  | .b => "B"

def HalfId.name : HalfId → String
  | .h0 => "H0"
  | .h1 => "H1"

/-- The subject of a trace entry (R174). -/
def Subject.name : Subject → String
  | .loop l => loopName l
  | .coil c => coilName c
  | .node n => nodeName n
  | .point n p => pointName n p
  | .chan p => chanName p
  | .input i => inputName i
  | .svc => "SVC"
  | .outdoor => "OUTDOOR"
  | .part => "PART"
  | .store => "STORE"
  | .bus => "BUS"
  | .trace => "TRACE"

/-! ## States -/

def PartMode.name : PartMode → String
  | .commission => "COMMISSION"
  | .run => "RUN"

def NodeRole.name : NodeRole → String
  | .none => "NONE"
  | .fan => "FAN"
  | .valve => "VALVE"
  | .pump => "PUMP"
  | .sensor => "SENSOR"

def ChanMode.name : ChanMode → String
  | .off => "OFF"
  | .count => "COUNT"
  | .period => "PERIOD"
  | .width => "WIDTH"

def edgeName : Edge → String
  | .rise => "RISE"
  | .fall => "FALL"

def InputNotice.name : InputNotice → String
  | .none => "NONE"
  | .rise => "RISE"
  | .fall => "FALL"
  | .both => "BOTH"

def InputRole.name : InputRole → String
  | .none => "NONE"
  | .plantStop => "PLANT_STOP"
  | .snowWarn => "SNOW_WARN"
  | .general => "GENERAL"

/-- The store state is what the settings section of the image is (R16). -/
def Section.name {α : Type} : Section α → String
  | .blank => "BLANK"
  | .invalid => "INVALID"
  | .valid _ => "VALID"

def PlanState.name : PlanState → String
  | .empty => "EMPTY"
  | .paused => "PAUSED"
  | .active => "ACTIVE"
  | .holding => "HOLDING"
  | .stopped => "STOPPED"

def Verdict.name : Verdict → String
  | .none => "NONE"
  | .pass => "PASS"
  | .target => "TARGET"
  | .coils => "COILS"

def LoopState.name : LoopState → String
  | .idle => "IDLE"
  | .starting => "STARTING"
  | .running => "RUNNING"
  | .failover => "FAILOVER"
  | .flowloss => "FLOWLOSS"

def FailReason.name : FailReason → String
  | .fault => "FAULT"
  | .planned => "PLANNED"

def healthName (faulted : Bool) : String := if faulted then "FAULTED" else "SOUND"

def runName (run : Bool) : String := if run then "RUN" else "OFF"

def CheckItem.name : CheckItem → String
  | .pumpA => "PUMP_A"
  | .pumpB => "PUMP_B"
  | .bypass => "BYPASS"
  | .supply => "SUPPLY"
  | .coils => "COILS"

def KwKind.name : KwKind → String
  | .scheduled => "SCHEDULED"
  | .emergency => "EMERGENCY"

def RetirePhase.name : RetirePhase → String
  | .rundown => "RUNDOWN"
  | .closing => "CLOSING"

def FaultCause.name : FaultCause → String
  | .node => "NODE"
  | .lost => "LOST"
  | .stroke => "STROKE"
  | .fan => "FAN"
  | .valve => "VALVE"

/-- The service state's name, without its sub-phase (R81). -/
def Service.name : Service → String
  | .dormant => "DORMANT"
  | .out => "OUT"
  | .isolated => "ISOLATED"
  | .keepwarm _ => "KEEPWARM"
  | .admitting _ _ _ => "ADMITTING"
  | .serving => "SERVING"
  | .shedding => "SHEDDING"
  | .retiring _ _ => "RETIRING"
  | .faulted _ => "FAULTED"

/-- The phase of an admission: HELD while R91 holds it, else DWELL or STROKE (R81). -/
def admitPhaseName (dwelling held : Bool) : String :=
  if held then "HELD" else if dwelling then "DWELL" else "STROKE"

def FrostState.name : FrostState → String
  | .clear => "CLEAR"
  | .watch => "WATCH"
  | .trip => "TRIP"
  | .unknown => "UNKNOWN"

def FrostCause.name : FrostCause → String
  | .reading => "READING"
  | .stale => "STALE"
  | .absent => "ABSENT"
  | .limits => "LIMITS"
  | .binding => "BINDING"
  | .start => "START"

def Summary.name : Summary → String
  | .normal => "NORMAL"
  | .guarded => "GUARDED"
  | .tripped => "TRIPPED"

def TxKind.name : TxKind → String
  | .read => "READ"
  | .write => "WRITE"
  | .ident => "IDENT"

def BusOutcome.name : BusOutcome → String
  | .lineError => "LINE_ERROR"
  | .timeout => "TIMEOUT"
  | .badFrame => "BADFRAME"
  | .refused => "REFUSED"
  | .good => "GOOD"

def BusStatus.name : BusStatus → String
  | .accept => "ACCEPT"
  | .refuse => "REFUSE"
  | .driveFault => "DRIVE_FAULT"

def NodeState.name : NodeState → String
  | .unseen => "UNSEEN"
  | .online => "ONLINE"
  | .suspect => "SUSPECT"
  | .offline => "OFFLINE"
  | .wrongRole => "WRONG_ROLE"

def Freshness.name : Freshness → String
  | .fresh => "FRESH"
  | .stale => "STALE"
  | .absent => "ABSENT"

def ShadowState.name : ShadowState → String
  | .settled => "SETTLED"
  | .queued => "QUEUED"
  | .inFlight => "IN_FLIGHT"

def Urgency.name : Urgency → String
  | .urgent => "URGENT"
  | .routine => "ROUTINE"

def ChanStatus.name : ChanStatus → String
  | .off => "OFF"
  | .silent => "SILENT"
  | .valid => "VALID"
  | .overrange => "OVERRANGE"

def activeName (b : Bool) : String := if b then "ACTIVE" else "INACTIVE"

def Outdoor.sourceName : Outdoor → String
  | .point _ => "POINT"
  | .pulse _ => "PULSE"
  | .host _ => "HOST"
  | .unknown => "NONE"

def HalfState.name : HalfState → String
  | .free => "FREE"
  | .filling => "FILLING"
  | .full => "FULL"

/-- The event codes (R174). -/
def EventCode.name : EventCode → String
  | .mode => "MODE"
  | .store => "STORE"
  | .loop => "LOOP"
  | .pump => "PUMP"
  | .blind => "BLIND"
  | .segment => "SEGMENT"
  | .holding => "HOLDING"
  | .prepare => "PREPARE"
  | .coil => "COIL"
  | .admitDone => "ADMIT_DONE"
  | .admitAbort => "ADMIT_ABORT"
  | .retireDone => "RETIRE_DONE"
  | .override => "OVERRIDE"
  | .frost => "FROST"
  | .node => "NODE"
  | .bus => "BUS"
  | .commandLost => "COMMAND_LOST"
  | .input => "INPUT"
  | .pulse => "PULSE"

def Source.name : Source → String
  | .trace => "TRACE"
  | .plan => "PLAN"
  | .frost => "FROST"
  | .pump => "PUMP"
  | .coil => "COIL"
  | .node => "NODE"
  | .bus => "BUS"
  | .input => "INPUT"
  | .pulse => "PULSE"
  | .override => "OVERRIDE"
  | .store => "STORE"
  | .mode => "MODE"

/-- Every notice source, in the order of the table of chapter 10. -/
def allSources : List Source :=
  [.trace, .plan, .frost, .pump, .coil, .node, .bus, .input, .pulse, .override, .store, .mode]

def Status.name : Status → String
  | .ok => "OK"
  | .busy => "BUSY"
  | .refused => "REFUSED"
  | .badArg => "BADARG"
  | .unknown => "UNKNOWN"
  | .timeout => "TIMEOUT"

def LineCause.name : LineCause → String
  | .check => "CHECK"
  | .length => "LENGTH"
  | .gap => "GAP"
  | .syn => "SYNTAX"

/-! ## Values that may be absent -/

/-- A binding or optional field with no value is reported as none (R10). -/
def optWord {α : Type} (f : α → String) : Option α → Val
  | some a => .word (f a)
  | none => .none

/-- A temperature, or NONE where it is unknown (R174). -/
def optTempU : Option Temp → Val
  | some t => .temp t
  | none => .unknown

/-- A number, or NONE where it is unknown (R174). -/
def optIntU : Option Int → Val
  | some n => .int n
  | none => .unknown

/-- A number, or none. -/
def optNat : Option Nat → Val
  | some n => .int n
  | none => .none

/-- A temperature, or none. -/
def optTemp : Option Temp → Val
  | some t => .temp t
  | none => .none

def loopVal : Option LoopId → Val := optWord loopName
def nodeVal : Option NodeId → Val := optWord nodeName
def pointVal : Option PointRef → Val := optWord PointRef.name

def FlowSource.name : FlowSource → String
  | .pulse p => chanName p
  | .point pt => pt.name

/-- A list of names, none where it is empty. The order of the members, where no rule gives one, is the model's choice (assumption 54). -/
def listVal (ws : List String) : Val := if ws.isEmpty then .none else .words ws

end Sys2Proof.Machine
end

