-- ==== Sys2Proof/Machine/Ops.lean ====
section
/-! DEFINITION. The shared operations: updates of one part of the state, timers, the notice unit, the trace writer, and the
command request an owner places with the roof bus master. -/

namespace Sys2Proof.Machine

/-! ## Updates of one part of the state -/

/-- Change one loop's regulator record. -/
def State.modLoop (s : State) (l : LoopId) (f : LoopSt → LoopSt) : State :=
  { s with loops := s.loops.set l (f s.loops[l]) }

/-- Change one loop's plan ring. -/
def State.modPlan (s : State) (l : LoopId) (f : Plan → Plan) : State :=
  { s with plans := s.plans.set l (f s.plans[l]) }

/-- Change the coil unit's record of one loop. -/
def State.modUnit (s : State) (l : LoopId) (f : LoopCoils → LoopCoils) : State :=
  { s with units := s.units.set l (f s.units[l]) }

/-- Change the coil unit's record of one coil. -/
def State.modCoil (s : State) (c : CoilId) (f : CoilSt → CoilSt) : State :=
  { s with coils := s.coils.set c (f s.coils[c]) }

/-- Change one coil's frost record. -/
def State.modFrost (s : State) (c : CoilId) (f : FrostRec → FrostRec) : State :=
  { s with frost := s.frost.set c (f s.frost[c]) }

/-- Put one coil's entry of the override table. -/
def State.setOverride (s : State) (c : CoilId) (o : Option Override) : State :=
  { s with overrides := s.overrides.set c o }

/-- Put one loop's frost summary. -/
def State.setSummary (s : State) (l : LoopId) (x : Summary) : State :=
  { s with summaries := s.summaries.set l x }

/-- Change one entry of the node table. -/
def State.modNode (s : State) (n : NodeId) (f : NodeEntry → NodeEntry) : State :=
  { s with nodes := s.nodes.set n (f s.nodes[n]) }

/-- Change the roof bus master's own record. -/
def State.modBus (s : State) (f : Bus → Bus) : State := { s with bus := f s.bus }

/-- Change the working copy. -/
def State.modCfg (s : State) (f : Settings → Settings) : State := { s with cfg := f s.cfg }

/-- Change the input unit. -/
def State.modInputs (s : State) (f : Inputs → Inputs) : State := { s with inputs := f s.inputs }

/-- Change the host link. -/
def State.modLink (s : State) (f : Link → Link) : State := { s with link := f s.link }

/-- Change one pulse channel's measurement. -/
def State.modChan (s : State) (p : ChanId) (f : Chan → Chan) : State :=
  s.modInputs fun i => { i with chans := i.chans.set p (f i.chans[p]) }

/-- Put one loop's roster order. -/
def State.setRoster (s : State) (l : LoopId) (r : List CoilId) : State :=
  s.modCfg fun g => { g with rosters := g.rosters.set l r }

/-- Change one coil's configuration record. -/
def State.modCoilRec (s : State) (c : CoilId) (f : CoilRec → CoilRec) : State :=
  s.modCfg fun g => { g with coils := g.coils.set c (f g.coils[c]) }

/-- Do the same for each member of a list, in order. -/
def State.forEach {α : Type} (s : State) (xs : List α) (f : α → State → State) : State :=
  xs.foldl (fun s x => f x s) s

/-! ## Timers -/

/-- One second of uptime passes. -/
def Timer.tick : Timer → Timer
  | .running (n + 1) => .running n
  | t => t

def Timer.pause : Timer → Timer
  | .running n => .paused n
  | t => t

def Timer.resume : Timer → Timer
  | .paused n => .running n
  | t => t

/-- Whether the timer runs (a paused one does not). -/
def Timer.isRunning : Timer → Bool
  | .running _ => true
  | _ => false

def RundownTimer.tick : RundownTimer → RundownTimer
  | .running (n + 1) => .running n
  | t => t

/-- Seconds remaining on a running or paused timer. -/
def Timer.left : Timer → Option Nat
  | .running n => some n
  | .paused n => some n
  | .stopped => none

/-! ## Plans -/

/-- The seconds at which the current segment's elapsed time ends it (R31): none where no segment stands at CUR or its duration is 0. -/
def Plan.endsAt (p : Plan) : Option Nat :=
  match (p.slots)[p.cur] with
  | some g => if g.duration = 0 then none else some (g.duration * 60)
  | none => none

/-- The plan becomes PAUSED with elapsed frozen (R38). A pause taken before a segment end freezes elapsed below the duration (R33): where
the second that brings it there has passed and SEGMENT_END has not, it is frozen one second below (assumption 2). -/
def Plan.pause (p : Plan) : Plan :=
  { p with state := .paused, elapsed := match p.endsAt with
                                        | some n => min p.elapsed (n - 1)
                                        | none => p.elapsed }

/-! ## The notice unit (R189) -/

/-- The members of a list as a set, in the order of the table, in which replies list them too: the model's choice (assumption 54). -/
def sourceSet (xs : List Source) : List Source := allSources.filter fun x => xs.contains x

/-- A source is raised: it becomes pending, and if it is enabled and was not pending before, the notice-due flag is set (R189). -/
def Notice.raise (n : Notice) (x : Source) : Notice :=
  if n.pending.contains x then n
  else { n with pending := sourceSet (x :: n.pending), due := n.due || n.enabled.contains x }

def State.raise (s : State) (x : Source) : State := { s with notice := s.notice.raise x }

/-! ## The trace writer (R173 to R176) -/

def HalfId.other : HalfId → HalfId
  | .h0 => .h1
  | .h1 => .h0

def Trace.half (t : Trace) : HalfId → Half
  | .h0 => t.h0
  | .h1 => t.h1

def Trace.setHalf (t : Trace) (h : HalfId) (x : Half) : Trace :=
  match h with
  | .h0 => { t with h0 := x }
  | .h1 => { t with h1 := x }

/-- The serial after this one: after 65535 it returns to 1 (R173). -/
def nextSerial (n : Nat) : Nat := if n = Config.countMax then 1 else n + 1

/-- A half becomes FILLING with fill count 0 and takes the next serial, and the writer moves to its index 0 (R176). -/
def Trace.startFilling (t : Trace) (h : HalfId) : Trace :=
  { t.setHalf h { state := .filling, entries := [], serial := t.next } with next := nextSerial t.next, writer := .writing h }

/-- The FILLING half h becomes FULL as it stands, and the writer moves on: into the other half if it is FREE, or to LOCKED
with missed count 0 (R176). -/
def Trace.close (t : Trace) (h : HalfId) (now : Nat) : Trace :=
  let t1 := t.setHalf h { t.half h with state := .full }
  match (t1.half h.other).state with
  | .free => t1.startFilling h.other
  | .filling => { t1 with writer := .locked now, missed := 0 }
  | .full => { t1 with writer := .locked now, missed := 0 }

/-- An entry added to half h. -/
def Trace.append (t : Trace) (h : HalfId) (e : TraceEntry) : Trace :=
  t.setHalf h { t.half h with entries := (t.half h).entries ++ [e] }

/-- The FILLING half is closed, and the TRACE source is raised (R176). -/
def State.closeHalf (s : State) (h : HalfId) : State :=
  { s with trace := s.trace.close h s.uptime }.raise .trace

/-- A block offers an entry: it is written with the present uptime, completing the half at 256, or discarded and counted
while the writer is LOCKED (R175). -/
def State.offer (s : State) (subj : Subject) (body : TraceBody) : State :=
  match s.trace.writer with
  | .locked _ => { s with trace := { s.trace with missed := min Config.countMax (s.trace.missed + 1) } }
  | .writing h =>
    let s1 := { s with trace := s.trace.append h { t := s.uptime, subj := subj, body := body } }
    if (s1.trace.half h).entries.length = Config.halfSize then s1.closeHalf h else s1

/-- An EVENT entry is offered. -/
def State.event (s : State) (subj : Subject) (code : EventCode) (detail : List Field) : State :=
  s.offer subj (.event code detail)

/-! ## Command requests (R152, R153) -/

/-- Change one node's output shadow. -/
def State.modShadow (s : State) (n : NodeId) (f : Shadow → Shadow) : State :=
  s.modNode n fun e => { e with shadow := f e.shadow }

/-- Whether a queue holds an entry for the node's output point. -/
def queuedIn (q : List Entry) (n : NodeId) : Bool := q.any fun e => e.node = n

/-- The queue without the node's entry. -/
def unqueue (q : List Entry) (n : NodeId) : List Entry := q.filter fun e => e.node ≠ n

/-- The node's queued value replaced in place, its refusal count 0 (R153). -/
def replaceQueued (q : List Entry) (n : NodeId) (v : Int) : List Entry :=
  q.map fun e => if e.node = n then { e with value := v, refusals := 0 } else e

/-- Append an entry to the tail of a queue. -/
def Bus.enqueue (b : Bus) (u : Urgency) (e : Entry) : Bus :=
  match u with
  | .urgent => { b with urgent := b.urgent ++ [e] }
  | .routine => { b with routine := b.routine ++ [e] }

/-- Whether requests for the node's point are lost at once: OFFLINE or WRONG_ROLE (R153). -/
def NodeState.isLost : NodeState → Bool
  | .offline => true
  | .wrongRole => true
  | _ => false

/-- The detail of a command lost because its node is gone: the value and the cause NODE (R153, R156). -/
def lostToNode (v : Int) : List Field := [("value", .int v), ("cause", .word "NODE")]

/-- The detail of a command refused a third time: the cause REFUSED (R155). -/
def lostToRefusal : List Field := [("cause", .word "REFUSED")]

/-- COMMAND_LOST for a node's output point: the event is traced, and the report is on its way to the owner (R153, R155, R156). -/
def State.commandLost (s : State) (n : NodeId) (detail : List Field) : State :=
  (s.event (.point n 0) .commandLost detail).modBus fun b => { b with lost := b.lost ++ [n] }

/-- A queued entry replaced in place; an URGENT request moves an entry of ROUTINE to the tail of URGENT (R153). -/
def Bus.replace (b : Bus) (n : NodeId) (v : Int) (u : Urgency) : Bus :=
  if queuedIn b.urgent n then { b with urgent := replaceQueued b.urgent n v }
  else match u with
    | .routine => { b with routine := replaceQueued b.routine n v }
    | .urgent => { b with routine := unqueue b.routine n, urgent := b.urgent ++ [⟨n, v, 0⟩] }

/-- Whether either queue holds an entry for the node's output point. -/
def Bus.queued (b : Bus) (n : NodeId) : Bool := queuedIn b.urgent n || queuedIn b.routine n

/-- An owner's command request for a node's output point: value and urgency (R153). -/
def State.busRequest (s : State) (n : NodeId) (v : Int) (u : Urgency) : State :=
  let s1 := s.modShadow n fun sh => { sh with desired := some v }
  if (s.nodes[n]).state.isLost then s1.commandLost n (lostToNode v)
  else if s.bus.queued n then s1.modBus fun b => b.replace n v u
  else
    (s1.modShadow n fun sh => { sh with state := if sh.state = .inFlight then .inFlight else .queued }).modBus
      fun b => b.enqueue u ⟨n, v, 0⟩

/-- A request for a node that may not be bound: nothing is placed for a binding of none. -/
def State.requestIf (s : State) (n : Option NodeId) (v : Int) (u : Urgency) : State :=
  match n with
  | some k => s.busRequest k v u
  | none => s

/-! ## What the regulator does for other blocks (R69, R70, R71) -/

/-- The bypass position is set and requested for the loop's bypass point (R71). -/
def State.setBypass (s : State) (l : LoopId) (pos : Nat) (u : Urgency) : State :=
  (s.modLoop l fun x => { x with bypass := pos }).requestIf (s.cfg.loops[l]).bypass pos u

def LoopSt.pump (x : LoopSt) : PumpId → Pump
  | .a => x.pumpA
  | .b => x.pumpB

def LoopSt.modPump (x : LoopSt) (p : PumpId) (f : Pump → Pump) : LoopSt :=
  match p with
  | .a => { x with pumpA := f x.pumpA }
  | .b => { x with pumpB := f x.pumpB }

def LoopRec.pumpNode (r : LoopRec) : PumpId → Option NodeId
  | .a => r.pumpA
  | .b => r.pumpB

def PumpId.other : PumpId → PumpId
  | .a => .b
  | .b => .a

/-- A pump's desired run is set and requested for its run point: 1 RUN, 0 OFF (R48, R195). -/
def State.setRun (s : State) (l : LoopId) (p : PumpId) (run : Bool) (u : Urgency) : State :=
  (s.modLoop l fun x => x.modPump p fun q => { q with run := run }).requestIf
    ((s.cfg.loops[l]).pumpNode p) (if run then 1 else 0) u

/-- An admission or retirement of the loop has completed or aborted: the holdoff restarts with the value in force,
in every loop state but IDLE (R69). -/
def State.restartHoldoff (s : State) (l : LoopId) : State :=
  if (s.loops[l]).state = .idle then s
  else s.modLoop l fun x => { x with holdoff := .running (s.cfg.loops[l]).holdoff }

end Sys2Proof.Machine
end

