-- ==== Sys2Proof/Machine/Flags.lean ====
section
/-! DEFINITION. The conditions and values the blocks compute from the state: freshness and readings, flow and its proof,
effective plan values, desired fan speed, frost classification, eligibility, plant conditions, the outdoor selection, and the owners of output
points with the order of their requests. -/

namespace Sys2Proof.Machine

/-! ## Readings (R149, R150) -/

/-- The master's record of a point; a point index no node has is never read. -/
def State.pointEntry (s : State) (pt : PointRef) : PointEntry :=
  if h : pt.point < 4 then ((s.nodes[pt.node]).points)[pt.point] else .absent0

/-- The value of a point that is FRESH. -/
def PointEntry.freshValue (e : PointEntry) : Option Int := if e.fresh = .fresh then e.value else none

/-- The value a binding reads, if it is bound and FRESH. -/
def State.freshAt (s : State) (pt : Option PointRef) : Option Int := pt.bind fun p => (s.pointEntry p).freshValue

/-- The loop's supply, if FRESH (R63). -/
def State.supply (s : State) (l : LoopId) : Option Temp := s.freshAt (s.cfg.loops[l]).supplyPt

/-- The loop's return, if bound and FRESH (R75). -/
def State.return (s : State) (l : LoopId) : Option Temp := s.freshAt (s.cfg.loops[l]).returnPt

/-- The node's state, where one is bound. -/
def State.nodeIs (s : State) (n : Option NodeId) (st : NodeState) : Bool :=
  match n with
  | some k => (s.nodes[k]).state = st
  | none => false

/-- Whether a bound node is OFFLINE or WRONG_ROLE. -/
def State.nodeGone (s : State) (n : Option NodeId) : Bool :=
  match n with
  | some k => (s.nodes[k]).state.isLost
  | none => false

/-! ## Flow and its proof (R49, R50) -/

/-- The flow value of a loop, if known (R49): a FRESH node point, or a VALID channel in COUNT mode. -/
def State.flow (s : State) (l : LoopId) : Option Int :=
  match (s.cfg.loops[l]).flowSrc with
  | none => none
  | some (.point pt) => (s.pointEntry pt).freshValue
  | some (.pulse p) =>
    if (s.cfg.chans[p]).mode = .count ∧ ((s.inputs.chans)[p]).status = .valid then
      (((s.inputs.chans)[p]).value).map fun v => (v : Int)
    else none

/-- A pump's status reading: the value of its node's status point (point 1) where that is FRESH (R49). -/
def State.pumpStatus (s : State) (l : LoopId) (p : PumpId) : Option Int :=
  ((s.cfg.loops[l]).pumpNode p).bind fun n => (s.pointEntry ⟨n, 1⟩).freshValue

/-- Status codes of R195. -/
def codeRunning : Int := 1
def codeFault : Int := 3

/-- Whether a pump's status reads RUNNING (R49). -/
def State.pumpRunning (s : State) (l : LoopId) (p : PumpId) : Bool := s.pumpStatus l p = some codeRunning

/-- The meter's verdict where there is one: flow known and min_flow above 0 (R50). -/
def State.flowTest (s : State) (l : LoopId) : Option Bool :=
  match s.flow l with
  | some v => if 0 < (s.cfg.loops[l]).minFlow then some (decide (((s.cfg.loops[l]).minFlow : Int) ≤ v)) else none
  | none => none

/-- Flow is proved for the pump under proof (R50). -/
def State.proved (s : State) (l : LoopId) (p : PumpId) : Bool :=
  match s.flowTest l with
  | some ok => ok
  | none => s.pumpRunning l p

/-- The candidate of a planned swap is proved: its status reads RUNNING, together with the meter where there is one (R50). -/
def State.provedPlanned (s : State) (l : LoopId) (p : PumpId) : Bool :=
  s.pumpRunning l p && (s.flowTest l).getD true

/-- The proof condition of FLOWLOSS, with either pump under proof (R60). -/
def State.provedEither (s : State) (l : LoopId) : Bool :=
  match s.flowTest l with
  | some ok => ok
  | none => s.pumpRunning l .a || s.pumpRunning l .b

/-! ## Coils of a loop (R65, R81) -/

def Service.isServing : Service → Bool
  | .serving => true
  | .shedding => true
  | _ => false

def Service.isAdmitting : Service → Bool
  | .admitting _ _ _ => true
  | _ => false

def Service.isRetiring : Service → Bool
  | .retiring _ _ => true
  | _ => false

/-- The coil's loop. -/
def State.coilLoop (s : State) (c : CoilId) : Option LoopId := (s.cfg.coils[c]).loop

/-- The coils assigned to a loop, in order of coil number. -/
def State.loopCoils (s : State) (l : LoopId) : List CoilId := allCoils.filter fun c => s.coilLoop c = some l

/-- How many of the loop's coils are in a service state of a kind. -/
def State.countCoils (s : State) (l : LoopId) (k : Service → Bool) : Nat :=
  ((s.loopCoils l).filter fun c => k (s.coils[c]).service).length

/-- The serving count: coils in SERVING or SHEDDING (R81). -/
def State.servingCount (s : State) (l : LoopId) : Nat := s.countCoils l Service.isServing

/-- The admitting count (R65). -/
def State.admittingCount (s : State) (l : LoopId) : Nat := s.countCoils l Service.isAdmitting

/-- Whether any coil of the loop is ADMITTING or RETIRING (R65, R79, R80). -/
def State.staging (s : State) (l : LoopId) : Bool :=
  (s.loopCoils l).any fun c => (s.coils[c]).service.isAdmitting || (s.coils[c]).service.isRetiring

/-! ## Effective plan values (R41, R42) -/

/-- The five values the plan unit supplies, with the slot's ramp for the report of R43. -/
structure Effective where
  target   : Temp
  band     : Temp
  ceiling  : Nat
  minCoils : Nat
  maxCoils : Nat
  ramp     : Nat
deriving DecidableEq, Repr

/-- The point a ramp has reached, rounded at one decimal place in the direction of the target (R41). -/
def rampPoint (start target : Temp) (elapsed ramp : Nat) : Temp :=
  let num : Int := (target - start) * elapsed
  let den : Int := ramp * 60
  if target < start then start + num / den else start - (-num) / den

/-- The effective target of a segment (R41). -/
def Segment.targetAt (g : Segment) (rampStart : Option Temp) (elapsed : Nat) : Temp :=
  if g.ramp = 0 ∨ g.ramp * 60 ≤ elapsed then g.target
  else match rampStart with
    | some t0 => rampPoint t0 g.target elapsed g.ramp
    | none => g.target

/-- The fallback values of a loop (R42). -/
def LoopRec.fallback (r : LoopRec) : Effective :=
  { target := r.fallbackTarget, band := r.fallbackBand, ceiling := 100, minCoils := 0, maxCoils := 16, ramp := 0 }

/-- The values the plan unit supplies for a loop: the segment at CUR, or the fallback values while EMPTY. -/
def State.effective (s : State) (l : LoopId) : Effective :=
  let p := s.plans[l]
  match p.state, (p.slots)[p.cur] with
  | .empty, _ => (s.cfg.loops[l]).fallback
  | _, none => (s.cfg.loops[l]).fallback
  | _, some g =>
    { target := g.targetAt p.rampStart p.elapsed, band := g.band, ceiling := g.ceiling, minCoils := g.minCoils,
      maxCoils := g.maxCoils, ramp := g.ramp }

/-! ## Desired fan speed (R86) -/

/-- The cap at fan_min while the frost state is WATCH or UNKNOWN; a cap leaves 0 as 0. -/
def frostCap (f : FrostState) (fanMin v : Nat) : Nat :=
  match f with
  | .watch => min v fanMin
  | .unknown => min v fanMin
  | .clear => v
  | .trip => v

/-- The loop's demand on one coil: fan step times fan_step, clipped, raised, capped, in that order. -/
def stepSpeed (fanStep fanStepPct ceiling fanMin fanMax : Nat) (f : FrostState) : Nat :=
  let d := min (fanStep * fanStepPct) (min ceiling fanMax)
  frostCap f fanMin (if d = 0 then 0 else max d fanMin)

/-- The desired fan speed of a coil by the first row of the table of R86 whose condition holds. -/
def State.fanDemand (s : State) (c : CoilId) : Int :=
  let x := s.coils[c]
  let r := s.cfg.coils[c]
  if !x.service.isServing then 0
  else if s.inputs.plantStop then 0
  else if x.frostGiven = .trip then 0
  else match r.loop with
    | none => 0
    | some l =>
      if x.service = .shedding then -((s.cfg.loops[l]).shedSpeed : Int)
      else match s.overrides[c] with
        | some ⟨.fan v, _⟩ => (frostCap x.frostGiven r.fanMin (min v r.fanMax) : Nat)
        | _ => (stepSpeed (s.loops[l]).fanStep (s.cfg.loops[l]).fanStep (s.effective l).ceiling r.fanMin r.fanMax
                  x.frostGiven : Nat)

/-! ## Frost classification (R110, R111, R121) -/

def LoopRec.tripLevel (r : LoopRec) : Temp := r.freeze + r.tripMargin
def LoopRec.watchLevel (r : LoopRec) : Temp := r.freeze + r.watchMargin
def LoopRec.tripRelease (r : LoopRec) : Temp := r.freeze + r.tripMargin + r.frostHyst
def LoopRec.watchRelease (r : LoopRec) : Temp := r.freeze + r.watchMargin + r.frostHyst

/-- The new frost state from the present one and a reading (R111). -/
def classify (r : LoopRec) (f : FrostState) (v : Temp) : FrostState :=
  match f with
  | .clear => if v ≤ r.tripLevel then .trip else if v ≤ r.watchLevel then .watch else .clear
  | .watch => if v ≤ r.tripLevel then .trip else if r.watchRelease ≤ v then .clear else .watch
  | .trip => if r.watchRelease ≤ v then .clear else if r.tripRelease ≤ v then .watch else .trip
  | .unknown => if v ≤ r.tripLevel then .trip else if v ≤ r.watchLevel then .watch else .clear

/-- The summary of a loop from the frost states of its coils that are not OUT (R121). -/
def State.summaryOf (s : State) (l : LoopId) : Summary :=
  let cs := (s.loopCoils l).filter fun c => (s.coils[c]).service ≠ .out
  if cs.any fun c => (s.frost[c]).state = .trip then .tripped
  else if cs.any fun c => (s.frost[c]).state = .watch || (s.frost[c]).state = .unknown then .guarded
  else .normal

/-- The loop's summary is recomputed (R121). -/
def State.resummarise (s : State) (l : LoopId) : State := s.setSummary l (s.summaryOf l)

/-- The summary of a coil's loop is recomputed, where it has one. -/
def State.resummariseCoil (s : State) (c : CoilId) : State :=
  match s.coilLoop c with
  | some l => s.resummarise l
  | none => s

/-! ## Eligibility (R88, R102) -/

/-- Whether a HOLD override is present. -/
def State.held (s : State) (c : CoilId) : Bool :=
  match s.overrides[c] with
  | some ⟨.hold, _⟩ => true
  | _ => false

/-- Whether a FAN override is present. -/
def State.fanOverride (s : State) (c : CoilId) : Bool :=
  match s.overrides[c] with
  | some ⟨.fan _, _⟩ => true
  | _ => false

/-- Both nodes bound and ONLINE (R88, R106, R135). -/
def State.nodesOnline (s : State) (c : CoilId) : Bool :=
  s.nodeIs (s.cfg.coils[c]).fanNode .online && s.nodeIs (s.cfg.coils[c]).valveNode .online

def Service.isIdle : Service → Bool
  | .isolated => true
  | .keepwarm _ => true
  | _ => false

/-- The conditions of R88 but for the HOLD override, which bars the regulator's requests only (R94). -/
def State.admissible (s : State) (c : CoilId) : Bool :=
  (s.coils[c]).service.isIdle && s.nodesOnline c && !(s.coils[c]).skip.isRunning &&
    (match s.coilLoop c with
     | some l => (s.loops[l]).state = .running
     | none => false)

/-- Eligible for admission by an UP request (R88). -/
def State.eligible (s : State) (c : CoilId) : Bool := s.admissible c && !s.held c

/-- Eligible to shed (R102). -/
def State.shedEligible (s : State) (c : CoilId) : Bool :=
  (s.coils[c]).service = .serving && (s.cfg.coils[c]).options.shedOk && (s.cfg.coils[c]).options.reverseOk &&
    (s.coils[c]).frostGiven = .clear && !s.fanOverride c && !(s.coils[c]).cooldown.isRunning &&
    (match s.coilLoop c with
     | some l => (s.loops[l]).state = .running
     | none => false)

/-- The loop serves keep-warm cycles: RUNNING or FAILOVER (R99, R101). -/
def LoopState.warms : LoopState → Bool
  | .running => true
  | .failover => true
  | _ => false

/-- Whether a coil's keep-warm timer may run: ISOLATED, KEEPWARM_OK, a valve node bound, its loop not IDLE (R98). -/
def State.kwTimed (s : State) (c : CoilId) : Bool :=
  (s.coils[c]).service = .isolated && (s.cfg.coils[c]).options.keepwarmOk && ((s.cfg.coils[c]).valveNode).isSome &&
    (match s.coilLoop c with
     | some l => (s.loops[l]).state ≠ .idle
     | none => false)

/-- The condition under which an admission is HELD (R91). -/
def State.holdCondition (s : State) (l : LoopId) (ref : Option Temp) : Bool :=
  match s.supply l with
  | none => true
  | some v => v < (s.cfg.loops[l]).floor ||
      (match ref with
       | some r => v < r - (s.cfg.loops[l]).slug
       | none => false)

/-- The position of step k of an admission of n steps: floor(100 k / n) (R89). -/
def stepPosition (n k : Nat) : Nat := 100 * k / n

/-- The first step whose position is above a given one; the last step is 100 (R89). -/
def firstStepAbove (n pos : Nat) : Nat :=
  (((List.range n).map fun k => k + 1).find? fun k => pos < stepPosition n k).getD n

/-! ## Plant conditions (R166, R167, R168) -/

/-- The debounced state of a discrete input: the debounced pin level equals the input's level (R166). -/
def State.inputActive (s : State) (i : InputId) : Bool :=
  ((s.inputs.contacts)[i]).debounced == (s.cfg.inputs[i]).activeHigh

/-- The service permission: SVC's debounced level is low (R168). -/
def State.svcActive (s : State) : Bool := !s.inputs.svc.debounced

/-- At least one input of the role is ACTIVE (R167). -/
def State.roleActive (s : State) (r : InputRole) : Bool :=
  allInputs.any fun i => (s.cfg.inputs[i]).role = r && s.inputActive i

/-! ## Outdoor selection (R169) -/

/-- A WIDTH value in tenths of a percent as a temperature: 0.0 % is -60.0, 100.0 % is +40.0 (R169). -/
def widthTemp (v : Nat) : Temp := (v : Int) - 600

/-- The selection as the sources stand: the point, the pulse channel, the host value, or none (R169). -/
def State.selectOutdoor (s : State) : Outdoor :=
  match s.freshAt s.cfg.site.outdoorPt with
  | some t => .point t
  | none =>
    match (s.cfg.site.outdoorPulse).bind fun p =>
        if ((s.inputs.chans)[p]).status = .valid then ((s.inputs.chans)[p]).value else none with
    | some v => .pulse (widthTemp v)
    | none =>
      match s.inputs.host with
      | some h => .host h.value
      | none => .unknown

def Outdoor.temp : Outdoor → Option Temp
  | .point t => some t
  | .pulse t => some t
  | .host t => some t
  | .unknown => none

/-! ## Owners of output points (R6, R152) -/

/-- The owner of a node's output point (R6, R152). -/
inductive Owner where
  | coilFan (c : CoilId)
  | coilValve (c : CoilId)
  | pump (l : LoopId) (p : PumpId)
  | bypass (l : LoopId)
deriving DecidableEq, Repr

/-- Every place that may bind an output node. -/
def allOwners : List Owner :=
  allLoops.flatMap (fun l => [.pump l .a, .pump l .b, .bypass l]) ++ allCoils.flatMap (fun c => [.coilFan c, .coilValve c])

/-- The node bound in a place. -/
def Settings.boundNode (g : Settings) : Owner → Option NodeId
  | .coilFan c => (g.coils[c]).fanNode
  | .coilValve c => (g.coils[c]).valveNode
  | .pump l p => (g.loops[l]).pumpNode p
  | .bypass l => (g.loops[l]).bypass

/-- The owner of a node's output point, where the node is bound as an output node. -/
def State.ownerOf (s : State) (n : NodeId) : Option Owner := allOwners.find? fun o => Settings.boundNode s.cfg o = some n

/-! ## The order of the coil unit's requests (R87) -/

/-- The place of an owner's request among those of one event: coil by coil in order of coil number, a coil's fan before its valve. -/
def Owner.rank : Owner → Nat
  | .coilFan c => 2 * c.val + 1
  | .coilValve c => 2 * c.val + 2
  | .pump _ _ => 0
  | .bypass _ => 0

/-- The place of a queued entry among the requests of one event. -/
def State.requestRank (s : State) (e : Entry) : Nat := ((s.ownerOf e.node).map Owner.rank).getD 0

/-- A queue after an event: what stood in it before keeps its order, and what has joined it since stands by rank, in the order in which
it joined where ranks are equal. -/
def orderJoined (rank : Entry → Nat) (before now : List Entry) : List Entry :=
  (now.filter fun e => queuedIn before e.node) ++
    (now.filter fun e => !queuedIn before e.node).insertionSort fun a b => rank a ≤ rank b

/-- The entries that have joined each queue since it stood as in b are put in the order of R87. -/
def State.inCoilOrder (s : State) (b : Bus) : State :=
  s.modBus fun x => { x with urgent := orderJoined s.requestRank b.urgent x.urgent,
                             routine := orderJoined s.requestRank b.routine x.routine }

/-- One event in the coil unit (R87): the requests it causes for several coils are placed coil by coil in order of coil number, in whatever
order the unit comes to the coils. What counts as one event is assumption 37. -/
def State.oneEvent (s : State) (f : State → State) : State := (f s).inCoilOrder s.bus

end Sys2Proof.Machine
end

