-- ==== Sys2Proof/Machine/Coil.lean ====
section
/-! DEFINITION. The coil unit (chapters 4 and 6): desired fan speed and valve position, stroke checks, admission, retirement, keep-warm,
shedding, faults, adoption, and what the unit does with what the frost monitor, the regulator and the roof bus master give it. -/

namespace Sys2Proof.Machine

/-! ## Desired fan speed (R86, R87) -/

/-- A desired fan speed is held and requested for the coil's fan point. -/
def State.setFan (s : State) (c : CoilId) (v : Int) (u : Urgency) : State :=
  (s.modCoil c fun x => { x with desiredFan := v }).requestIf (s.cfg.coils[c]).fanNode v u

/-- The desired fan speed is computed again (R87): DORMANT holds 0, and an equal value places no request. -/
def State.refan (s : State) (c : CoilId) (u : Urgency) : State :=
  if (s.coils[c]).service = .dormant then s
  else if s.fanDemand c = (s.coils[c]).desiredFan then s
  else s.setFan c (s.fanDemand c) u

/-- Every coil of a loop, in order of coil number (R87). -/
def State.refanLoop (s : State) (l : LoopId) (u : Urgency) : State := s.forEach (s.loopCoils l) fun c s => s.refan c u

/-! ## Desired valve position and the stroke check (R84, R85) -/

/-- No stroke check runs in OUT or DORMANT (R85). -/
def Service.strokeWatched : Service → Bool
  | .out => false
  | .dormant => false
  | _ => true

/-- The stroke timeout of a coil's loop. -/
def State.strokeLength (s : State) (c : CoilId) : Nat :=
  match s.coilLoop c with
  | some l => (s.cfg.loops[l]).strokeTimeout
  | none => LoopRec.default.strokeTimeout

/-- The desired valve position is set and requested, and its stroke check starts (R84, R85); nothing without a valve node. A coil in OUT,
for which R85 starts no check, reads settled=no from its command on too: the model's choice (assumption 44). -/
def State.setValve (s : State) (c : CoilId) (pos : Nat) (u : Urgency) : State :=
  match (s.cfg.coils[c]).valveNode with
  | none => s
  | some n =>
    (s.modCoil c fun x =>
      { x with desiredValve := some pos, settled := false,
               stroke := if x.service.strokeWatched then .running (s.strokeLength c) else .stopped }).busRequest n pos u

/-! ## Queues, permit, counts -/

/-- The coil leaves the keep-warm queue. -/
def State.leaveKwQueue (s : State) (l : LoopId) (c : CoilId) : State :=
  s.modUnit l fun u => { u with kwQueue := u.kwQueue.filter fun d => d ≠ c }

/-- The coil leaves the shed queue. -/
def State.leaveShedQueue (s : State) (l : LoopId) (c : CoilId) : State :=
  s.modUnit l fun u => { u with shedQueue := u.shedQueue.filter fun d => d ≠ c }

/-- The coil frees the shed permit if it holds it. -/
def State.freePermit (s : State) (l : LoopId) (c : CoilId) : State :=
  s.modUnit l fun u => { u with permit := if u.permit = some c then none else u.permit }

/-- A scheduled cycle leaves the loop's count. -/
def State.uncount (s : State) (l : LoopId) (was : Service) : State :=
  if was = .keepwarm .scheduled then s.modUnit l fun u => { u with kwCount := u.kwCount - 1 } else s

/-- The serving count is reported after a change from before: where it fell to 0 with the bypass below 100, the regulator
opens the bypass fully (R70). A loop that is IDLE issues nothing. -/
def State.noteServing (s : State) (l : LoopId) (before : Nat) : State :=
  if before ≠ 0 ∧ s.servingCount l = 0 ∧ (s.loops[l]).bypass < 100 ∧ (s.loops[l]).state ≠ .idle then
    s.setBypass l 100 .urgent
  else s

/-- The head of the keep-warm queue starts a SCHEDULED cycle, if the count and the loop allow (R99). Its valve command is ROUTINE also where
a WATCH request has put the coil there, whose change of frost state R84 would send URGENT (assumption 42). -/
def State.startScheduled (s : State) (l : LoopId) : State :=
  match (s.units[l]).kwQueue with
  | [] => s
  | c :: rest =>
    if (s.units[l]).kwCount < (s.cfg.loops[l]).kwConcurrency ∧ (s.loops[l]).state.warms then
      ((s.modUnit l fun u => { u with kwQueue := rest, kwCount := u.kwCount + 1 }).modCoil c fun x =>
        { x with service := .keepwarm .scheduled, kwTimer := .stopped,
                 kwDwell := .running (s.cfg.loops[l]).kwDwell }).setValve c (s.cfg.loops[l]).kwPosition .routine
    else s

/-- The keep-warm queue is served: several cycles may start on one evaluation (R99). -/
def State.serveKw (s : State) (l : LoopId) : State :=
  s.oneEvent fun s => s.forEach (s.units[l]).kwQueue fun _ s => s.startScheduled l

/-- The head of the shed queue is taken while the permit is free: it sheds if it is still eligible, else it is dropped (R103). -/
def State.takeShedHead (s : State) (l : LoopId) : State :=
  match (s.units[l]).permit, (s.units[l]).shedQueue with
  | none, c :: rest =>
    let s1 := s.modUnit l fun u => { u with shedQueue := rest }
    if s1.shedEligible c then
      (((s1.modUnit l fun u => { u with permit := some c }).modCoil c fun x =>
        { x with service := .shedding, shed := .running (s.cfg.loops[l]).shedTime }).refan c .routine).event
          (.coil c) .coil [("detail", .word "SHED_START")]
    else s1
  | _, _ => s

/-- The shed queue is served (R103). -/
def State.serveShed (s : State) (l : LoopId) : State := s.forEach (s.units[l]).shedQueue fun _ s => s.takeShedHead l

/-! ## Rotation (R79, R80) -/

/-- The lead moves to the end; a roster of 0 or 1 coils is unchanged (R79). -/
def rotate : List CoilId → List CoilId
  | [] => []
  | c :: cs => cs ++ [c]

def State.rotateRoster (s : State) (l : LoopId) : State := s.setRoster l (rotate (s.cfg.rosters[l]))

/-- An automatic rotation, traced with the new lead (R80). -/
def State.autoRotate (s : State) (l : LoopId) : State :=
  let s1 := s.rotateRoster l
  s1.event (.loop l) .loop [("detail", .word "ROTATE"), ("lead", optWord coilName (s1.cfg.rosters[l]).head?)]

/-- A deferred rotation is carried out once no coil of the loop is ADMITTING or RETIRING (R80). -/
def State.deferredRotation (s : State) (l : LoopId) : State :=
  if (s.units[l]).deferred && !s.staging l then (s.modUnit l fun u => { u with deferred := false }).autoRotate l else s

/-- An admission or retirement of the loop has ended: holdoff and deferred rotation (R69, R80). -/
def State.stagingEnded (s : State) (l : LoopId) : State := (s.restartHoldoff l).deferredRotation l

/-! ## Keep-warm (R98 to R101) -/

/-- A coil enters ISOLATED: its keep-warm timer starts where R98 lets it run. -/
def State.toIsolated (s : State) (c : CoilId) (l : LoopId) : State :=
  let s1 := s.modCoil c fun x => { x with service := .isolated, kwTimer := .stopped }
  if s1.kwTimed c then s1.modCoil c fun x => { x with kwTimer := .running (s.cfg.loops[l]).kwInterval } else s1

/-- An emergency request is acted on only with KEEPWARM_OK, a valve node, and a loop RUNNING or FAILOVER (R101). -/
def State.emergencyTaken (s : State) (c : CoilId) (l : LoopId) : Bool :=
  (s.cfg.coils[c]).options.keepwarmOk && ((s.cfg.coils[c]).valveNode).isSome && (s.loops[l]).state.warms

/-- A WATCH request: the coil goes to the head of the queue, its timer stopped, and the queue is served (R98, R101). -/
def State.watchRequest (s : State) (c : CoilId) (l : LoopId) : State :=
  ((s.modCoil c fun x => { x with kwTimer := .stopped }).modUnit l fun u =>
    { u with kwQueue := c :: u.kwQueue.filter fun d => d ≠ c }).serveKw l

/-- A TRIP request: an EMERGENCY cycle starts at once, outside the count (R101). -/
def State.tripRequest (s : State) (c : CoilId) (l : LoopId) : State :=
  (((s.leaveKwQueue l c).modCoil c fun x =>
    { x with service := .keepwarm .emergency, kwTimer := .stopped,
             kwDwell := .running (s.cfg.loops[l]).kwDwell }).setValve c (s.cfg.loops[l]).kwPosition .urgent).event
      (.coil c) .coil [("detail", .word "KW_EMERGENCY")]

/-- The emergency request that a frost state makes for an ISOLATED coil (R101, R119). -/
def State.emergency (s : State) (c : CoilId) (l : LoopId) : State :=
  if (s.coils[c]).service = .isolated && s.emergencyTaken c l then
    match (s.coils[c]).frostGiven with
    | .watch => s.watchRequest c l
    | .trip => s.tripRequest c l
    | .clear => s
    | .unknown => s
  else s

/-- A cycle ends with a closing command of this urgency: ISOLATED, out of the count (R100). -/
def State.endCycle (s : State) (c : CoilId) (l : LoopId) (u : Urgency) : State :=
  (((s.modCoil c fun x => { x with kwDwell := .stopped }).toIsolated c l).setValve c 0 u).uncount l (s.coils[c]).service

/-- The keep-warm timer expires (R98). -/
def State.kwTimerExpired (s : State) (c : CoilId) (l : LoopId) : State :=
  if (s.loops[l]).state.warms &&
      (match s.inputs.outdoor.temp with
       | none => true
       | some t => t < (s.cfg.loops[l]).kwThreshold) then
    ((s.modCoil c fun x => { x with kwTimer := .stopped }).modUnit l fun u =>
      { u with kwQueue := if u.kwQueue.contains c then u.kwQueue else u.kwQueue ++ [c] }).serveKw l
  else s.modCoil c fun x => { x with kwTimer := .running (s.cfg.loops[l]).kwInterval }

/-- The keep-warm dwell expires (R100, R101). -/
def State.kwDwellExpired (s : State) (c : CoilId) (l : LoopId) : State :=
  s.oneEvent fun s => match (s.coils[c]).service with
  | .keepwarm .scheduled => ((s.endCycle c l .routine).emergency c l).serveKw l
  | .keepwarm .emergency =>
    if (s.coils[c]).frostGiven = .trip then
      s.modCoil c fun x => { x with kwDwell := .running (s.cfg.loops[l]).kwDwell }
    else
      ((s.endCycle c l .routine).event (.coil c) .coil [("detail", .word "KW_END")]).emergency c l
  | _ => s

/-! ## Shedding (R102 to R104) -/

/-- A trigger for one coil: it joins the tail of the shed queue if it is eligible and not there, and the queue is served. -/
def State.shedTrigger (s : State) (c : CoilId) : State :=
  match s.coilLoop c with
  | none => s
  | some l =>
    if s.shedEligible c && !(s.units[l]).shedQueue.contains c then
      (s.modUnit l fun u => { u with shedQueue := u.shedQueue ++ [c] }).serveShed l
    else s

/-- The snow warning has become active: a trigger for each loop's coils in roster order (R102, R167), one event (R87). That the loops come
in order of loop number is the model's choice (assumption 45). -/
def State.snowTrigger (s : State) : State :=
  s.oneEvent fun s => s.forEach allLoops fun l s => s.forEach (s.cfg.rosters[l]) fun c s => s.shedTrigger c

/-- A coil's shedding ends (R104): SERVING, permit freed, cooldown, SHED_END with its cause, the fan speed computed anew. -/
def State.leaveShedding (s : State) (c : CoilId) (l : LoopId) (cause : String) (u : Urgency) : State :=
  (((s.modCoil c fun x =>
      { x with service := .serving, shed := .stopped, cooldown := .running (s.cfg.loops[l]).shedCooldown }).freePermit l c).event
        (.coil c) .coil [("detail", .word "SHED_END"), ("cause", .word cause)]).refan c u

/-- Shedding ends if the coil is shedding; the freed permit is not offered yet. -/
def State.leaveSheddingIf (s : State) (c : CoilId) (cause : String) (u : Urgency) : State :=
  match s.coilLoop c, (s.coils[c]).service with
  | some l, .shedding => s.leaveShedding c l cause u
  | _, _ => s

/-- Shedding ends, and the freed permit is offered to the queue (R103, R104). -/
def State.endShedding (s : State) (c : CoilId) (l : LoopId) (cause : String) (u : Urgency) : State :=
  s.oneEvent fun s => (s.leaveShedding c l cause u).serveShed l

/-- Shedding ends if the coil is shedding, and the freed permit is offered to the queue. -/
def State.endSheddingIf (s : State) (c : CoilId) (cause : String) (u : Urgency) : State :=
  match s.coilLoop c, (s.coils[c]).service with
  | some l, .shedding => s.endShedding c l cause u
  | _, _ => s

/-! ## Admission (R88 to R93) -/

/-- The step an admission begins at: 1 from ISOLATED, the first step above kw_position from KEEPWARM (R89). -/
def State.firstStep (s : State) (c : CoilId) (l : LoopId) : Nat :=
  match (s.coils[c]).service with
  | .keepwarm _ => firstStepAbove (s.cfg.loops[l]).admitSteps (s.cfg.loops[l]).kwPosition
  | _ => 1

/-- An admission begins (R89). The fall of the count of scheduled cycles lets the queue be served (R99). -/
def State.startAdmission (s : State) (c : CoilId) (l : LoopId) : State :=
  s.oneEvent fun s =>
  let r := s.cfg.loops[l]
  let k := s.firstStep c l
  let s1 := (s.uncount l (s.coils[c]).service).leaveKwQueue l c
  let s2 := s1.modCoil c fun x =>
    { x with service := .admitting k false false, admitRef := (s.supply l).orElse fun _ => (s.units[l]).lastSupply,
             admitTotal := r.admitSteps, admitBegan := s.uptime, kwDwell := .stopped, kwTimer := .stopped,
             dwell := .stopped, admission := .running r.admitTimeout }
  ((s2.setValve c (stepPosition r.admitSteps k) .routine).refan c .routine).serveKw l

/-- The valve has settled at a step that is not the last: the dwell starts, paused while HELD or in FAILOVER (R90). -/
def State.startDwell (s : State) (c : CoilId) (l : LoopId) (k : Nat) (held : Bool) : State :=
  let n := (s.cfg.loops[l]).stepDwell
  s.modCoil c fun x =>
    { x with service := .admitting k true held,
             dwell := if held ∨ (s.loops[l]).state = .failover then .paused n else .running n }

/-- An admission completes (R92). -/
def State.completeAdmission (s : State) (c : CoilId) (l : LoopId) : State :=
  let s1 := s.modCoil c fun x =>
    { x with service := .serving, admission := .stopped, dwell := .stopped, admitRef := none }
  (((s1.event (.coil c) .admitDone [("loop", .word (loopName l)), ("time", .int ((s.uptime : Int) - (s.coils[c]).admitBegan))]
    ).restartHoldoff l).refan c .routine).deferredRotation l

/-- The record of a coil whose admission has ended without completing. R92 clears the admit reference where an admission completes; that
every other end clears it too is the model's reading (assumption 28). -/
def CoilSt.endAdmission (x : CoilSt) : CoilSt := { x with admission := .stopped, dwell := .stopped, admitRef := none }

/-- The step an admission has reached. -/
def Service.step : Service → Nat
  | .admitting k _ _ => k
  | _ => 0

/-- ADMIT_ABORT is traced with its cause, and the step reached where the rule gives one, as R92 does for TIMEOUT and R93 and R130 do not. -/
def State.traceAbort (s : State) (c : CoilId) (cause : String) (step : Option Nat) : State :=
  s.event (.coil c) .admitAbort (("cause", .word cause) :: step.toList.map fun k => ("step", .int k))

/-- An admission aborts into ISOLATED, by its timeout (R92) or by FLOWLOSS (R93). -/
def State.abortAdmission (s : State) (c : CoilId) (l : LoopId) (cause : String) (step : Option Nat) (u : Urgency) : State :=
  (((((s.modCoil c CoilSt.endAdmission).toIsolated c l).setValve c 0 u).traceAbort c cause step).raise .coil).stagingEnded l

/-- The admission timeout expires (R92): the abort with its admit-skip timer. -/
def State.admissionTimedOut (s : State) (c : CoilId) (l : LoopId) : State :=
  s.oneEvent fun s =>
    ((s.modCoil c fun x => { x with skip := .running (s.cfg.loops[l]).holdoff }).abortAdmission c l "TIMEOUT"
      (some (s.coils[c]).service.step) .routine).emergency c l

/-- The step dwell expires: the next step is commanded (R90). -/
def State.nextStep (s : State) (c : CoilId) : State :=
  match (s.coils[c]).service with
  | .admitting k true held =>
    (s.modCoil c fun x => { x with service := .admitting (k + 1) false held, dwell := .stopped }).setValve c
      (stepPosition (s.coils[c]).admitTotal (k + 1)) .routine
  | _ => s

/-- HELD is evaluated for one coil of the loop (R91). -/
def State.evalHoldOf (s : State) (l : LoopId) (c : CoilId) : State :=
  match (s.coils[c]).service with
  | .admitting k d held =>
    if s.holdCondition l (s.coils[c]).admitRef then
      if held then s
      else s.modCoil c fun x => { x with service := .admitting k d true, dwell := x.dwell.pause }
    else if held then
      s.modCoil c fun x =>
        { x with service := .admitting k d false,
                 dwell := if (s.loops[l]).state = .failover then x.dwell else x.dwell.resume }
    else s
  | _ => s

/-- HELD is evaluated for the loop's admission (R91). -/
def State.evalHold (s : State) (l : LoopId) : State := s.forEach (s.loopCoils l) fun c s => s.evalHoldOf l c

/-- A good read of the loop's supply point arrives (R82, R89, R91): the last FRESH value, a reference still none, then HELD. -/
def State.supplyArrived (s : State) (l : LoopId) (v : Temp) : State :=
  let s1 := s.modUnit l fun u => { u with lastSupply := some v }
  (s1.forEach (s1.loopCoils l) fun c s =>
    if (s.coils[c]).service.isAdmitting ∧ (s.coils[c]).admitRef = none then
      s.modCoil c fun x => { x with admitRef := some v }
    else s).evalHold l

/-- An UP request (R88): the state after it, and whether it was answered STARTED. -/
def State.upRequest (s : State) (l : LoopId) : State × Bool :=
  if 0 < s.admittingCount l then (s, false)
  else match (s.cfg.rosters[l]).find? fun c => s.eligible c with
    | some c => (s.startAdmission c l, true)
    | none => (s, false)

/-! ## Retirement (R95 to R97) -/

/-- A retirement begins, the regulator having been told where R70 asks it (R95, steps 2 to 4). A permit it frees is not offered yet. -/
def State.beginRetire (s : State) (c : CoilId) (l : LoopId) (outFlag : Bool) : State :=
  let s1 := (s.freePermit l c).leaveShedQueue l c
  let s2 := s1.modCoil c fun x =>
    { x with service := .retiring .rundown outFlag, shed := .stopped, rundown := .running (s.cfg.loops[l]).rundown }
  (s2.refan c .routine).noteServing l (s.servingCount l)

/-- The regulator opens the bypass fully before the last serving coil leaves (R70, R95, R131). -/
def State.tellLast (s : State) (l : LoopId) (leaving : Nat) : State :=
  if s.servingCount l ≠ 0 ∧ s.servingCount l ≤ leaving then s.setBypass l 100 .urgent else s

/-- A retirement of one coil (R95); a permit it frees is offered to the shed queue (R103). -/
def State.startRetire (s : State) (c : CoilId) (l : LoopId) (outFlag : Bool) : State :=
  s.oneEvent fun s => ((s.tellLast l 1).beginRetire c l outFlag).serveShed l

/-- A retirement enters CLOSING: valve 0 with its stroke check (R96). -/
def State.toClosing (s : State) (c : CoilId) (outFlag : Bool) : State :=
  (s.modCoil c fun x => { x with service := .retiring .closing outFlag, rundown := .stopped }).setValve c 0 .routine

/-- The rundown timer expires (R96): in FLOWLOSS the coil waits in RUNDOWN. -/
def State.rundownExpired (s : State) (c : CoilId) (l : LoopId) : State :=
  match (s.coils[c]).service with
  | .retiring .rundown o =>
    if (s.loops[l]).state = .flowloss then s.modCoil c fun x => { x with rundown := .expiredWaiting }
    else s.toClosing c o
  | _ => s

/-- A waiting RUNDOWN enters CLOSING when its loop leaves FLOWLOSS for RUNNING (R96). -/
def State.releaseRundown (s : State) (c : CoilId) : State :=
  match (s.coils[c]).service, (s.coils[c]).rundown with
  | .retiring .rundown o, .expiredWaiting => s.toClosing c o
  | _, _ => s

/-- A retirement completes: OUT or ISOLATED (R96). -/
def State.completeRetire (s : State) (c : CoilId) (l : LoopId) (outFlag : Bool) : State :=
  if outFlag then
    ((((s.modCoil c fun x => { x with service := .out, kwTimer := .stopped }).event
      (.coil c) .retireDone [("state", .word "OUT")]).restartHoldoff l).deferredRotation l).resummarise l
  else
    (((s.toIsolated c l).event (.coil c) .retireDone [("state", .word "ISOLATED")]).stagingEnded l).emergency c l

/-- A DOWN request (R95): the state after it, and whether it was answered STARTED. -/
def State.downRequest (s : State) (l : LoopId) : State × Bool :=
  if s.staging l then (s, false)
  else match (s.cfg.rosters[l]).reverse.find? fun c => (s.coils[c]).service = .serving && !s.held c with
    | some c => (s.startRetire c l false, true)
    | none => (s, false)

/-! ## Valve readings (R85) -/

/-- A good read of the valve's position point: within 5 of the desired position it settles a running check, and the operation
waiting on it moves on (R85, R90, R92, R96). -/
def State.valveArrived (s : State) (c : CoilId) (v : Int) : State :=
  match s.coilLoop c, (s.coils[c]).desiredValve with
  | some l, some pos =>
    if (s.coils[c]).stroke.isRunning ∧ (v - pos).natAbs ≤ 5 then
      let s1 := s.modCoil c fun x => { x with settled := true, stroke := .stopped }
      match (s.coils[c]).service with
      | .admitting k false held =>
        if (s.coils[c]).admitTotal ≤ k then s1.completeAdmission c l else s1.startDwell c l k held
      | .retiring .closing o => s1.completeRetire c l o
      | _ => s1
    else s
  | _, _ => s

/-! ## Faults (R105) -/

/-- The six states in which a coil takes a fault cause (R105). -/
def Service.canFault : Service → Bool
  | .isolated => true
  | .keepwarm _ => true
  | .admitting _ _ _ => true
  | .serving => true
  | .shedding => true
  | .retiring _ _ => true
  | .dormant => false
  | .out => false
  | .faulted _ => false

/-- The record of a coil on entry to FAULTED: its checks and timers of R105 stop, a keep-warm timer stops as it leaves ISOLATED, and an
admit reference is cleared (assumption 28). -/
def CoilSt.toFaulted (x : CoilSt) (cause : FaultCause) : CoilSt :=
  { x with service := .faulted cause, stroke := .stopped, dwell := .stopped, kwDwell := .stopped, rundown := .stopped,
           shed := .stopped, admission := .stopped, admitRef := none, kwTimer := .stopped }

/-- A coil becomes FAULTED with a cause (R105), in a loop that is not IDLE. -/
def State.coilFault (s : State) (c : CoilId) (cause : FaultCause) : State :=
  s.oneEvent fun s => match s.coilLoop c with
  | none => s
  | some l =>
    let was := (s.coils[c]).service
    if was.canFault ∧ (s.loops[l]).state ≠ .idle then
      let s1 := (s.modCoil c fun x => x.toFaulted cause).refan c .routine
      let s2 := (((s1.leaveKwQueue l c).leaveShedQueue l c).freePermit l c).uncount l was
      let s3 := if was.isAdmitting || was.isRetiring then s2.stagingEnded l else s2
      (((((s3.noteServing l (s.servingCount l)).event (.coil c) .coil
        [("cause", .word cause.name), ("left", .word was.name)]).raise .coil).serveKw l).serveShed l)
    else s

/-- The stroke timer expires (R85). -/
def State.strokeExpired (s : State) (c : CoilId) : State := s.coilFault c .stroke

/-! ## What the frost monitor gives (R116 to R120) -/

/-- A new frost state is given to the coil unit, which acts on it at once. -/
def State.frostToCoil (s : State) (c : CoilId) (f : FrostState) : State :=
  let s1 := s.modCoil c fun x => { x with frostGiven := f }
  match s.coilLoop c with
  | none => s1
  | some l =>
    match (s.coils[c]).service with
    | .serving => s1.refan c .urgent
    | .shedding => if f = .clear then s1 else s1.endShedding c l "FROST" .urgent
    | .isolated => s1.emergency c l
    | .keepwarm .scheduled =>
      if f = .trip then
        (((s1.modCoil c fun x => { x with service := .keepwarm .emergency }).uncount l (.keepwarm .scheduled)).event
          (.coil c) .coil [("detail", .word "KW_EMERGENCY")]).serveKw l
      else s1
    | _ => s1

/-! ## What the regulator gives: loop states (4.8) -/

/-- The shed queue is emptied as the loop leaves RUNNING, and shedding ends (R104). -/
def State.stopShedding (s : State) (l : LoopId) (cause : String) (u : Urgency) : State :=
  (s.modUnit l fun x => { x with shedQueue := [] }).forEach (s.loopCoils l) fun c s => s.endSheddingIf c cause u

/-- The loop has entered FAILOVER: shedding ends, the admission's dwell and timeout pause, the queue is served (R93, R99, R104). -/
def State.coilsOnFailover (s : State) (l : LoopId) : State :=
  s.oneEvent fun s =>
  let s1 := s.stopShedding l "FAILOVER" .routine
  (s1.forEach (s1.loopCoils l) fun c s =>
    if (s.coils[c]).service.isAdmitting then
      s.modCoil c fun x => { x with dwell := x.dwell.pause, admission := x.admission.pause }
    else s).serveKw l

/-- One coil as its loop enters FLOWLOSS: shedding ends, the admission aborts, its cycle ends (R93, R100, R104). -/
def State.coilOnFlowloss (s : State) (l : LoopId) (c : CoilId) : State :=
  match (s.coils[c]).service with
  | .shedding => s.endShedding c l "FLOWLOSS" .urgent
  | .admitting _ _ _ => s.abortAdmission c l "FLOWLOSS" none .urgent
  | .keepwarm _ => s.endCycle c l .urgent
  | _ => s

/-- The loop has entered FLOWLOSS: both queues are emptied, and the coils of the keep-warm queue start their timers (R99). The coils come
in order of coil number, and so do the entries their shedding and admission trace: the model's choice (assumption 45). -/
def State.coilsOnFlowloss (s : State) (l : LoopId) : State :=
  let waiting := (s.units[l]).kwQueue
  let s1 := s.modUnit l fun u => { u with kwQueue := [], shedQueue := [] }
  let s2 := s1.forEach waiting fun c s => s.toIsolated c l
  s2.forEach (s2.loopCoils l) fun c s => s.coilOnFlowloss l c

/-- One coil as its loop returns to RUNNING: a paused admission resumes, its dwell only where it is not HELD (R93), and a waiting
RUNDOWN closes (R96). -/
def State.coilOnRunning (s : State) (c : CoilId) : State :=
  match (s.coils[c]).service with
  | .admitting _ _ held =>
    s.modCoil c fun x =>
      { x with admission := x.admission.resume, dwell := if held then x.dwell else x.dwell.resume }
  | _ => s.releaseRundown c

/-- The loop has entered RUNNING (R93, R96, R99). -/
def State.coilsOnRunning (s : State) (l : LoopId) : State :=
  s.oneEvent fun s => (s.forEach (s.loopCoils l) fun c s => s.coilOnRunning c).serveKw l

/-! ## Adoption and the changes of part mode (R12, R13, R83, R108) -/

/-- The valve position as the master holds it, where it is FRESH. -/
def State.valvePosition (s : State) (c : CoilId) : Option Int :=
  ((s.cfg.coils[c]).valveNode).bind fun n => (s.pointEntry ⟨n, 1⟩).freshValue

/-- The fan node's status reading, where it is FRESH (R107). That COIL_STATE gives NONE whenever the point is not FRESH, also while a value
is kept, is the model's choice (assumption 52). -/
def State.fanStatus (s : State) (c : CoilId) : Option Int :=
  ((s.cfg.coils[c]).fanNode).bind fun n => (s.pointEntry ⟨n, 2⟩).freshValue

/-- Whether adoption finds the valve open: FRESH and at least 90 (R83). -/
def State.valveOpen (s : State) (c : CoilId) : Bool :=
  match s.valvePosition c with
  | some v => 90 ≤ v
  | none => false

/-- A coil whose fan or valve node is OFFLINE or WRONG_ROLE is FAULTED (R83, R105). -/
def State.faultIfGone (s : State) (c : CoilId) : State :=
  if s.nodeGone (s.cfg.coils[c]).fanNode || s.nodeGone (s.cfg.coils[c]).valveNode then s.coilFault c .node else s

/-- One coil is adopted (R83). -/
def State.adoptCoil (s : State) (c : CoilId) (l : LoopId) : State :=
  if (s.cfg.coils[c]).withdrawn then
    ((s.modCoil c fun x => { x with service := .out }).setFan c 0 .routine).setValve c 0 .routine
  else if s.valveOpen c then
    let s1 := s.modCoil c fun x => { x with service := .serving }
    ((((s1.setFan c (s1.fanDemand c) .routine).setValve c 100 .routine).event (.coil c) .coil [])).faultIfGone c
  else
    (((s.toIsolated c l).setFan c 0 .routine).setValve c 0 .routine).faultIfGone c

/-- The loop's coils are adopted, in roster order (R83), and the loop's summary follows (R121). -/
def State.adopt (s : State) (l : LoopId) : State :=
  (s.forEach (s.cfg.rosters[l]) fun c s => s.adoptCoil c l).resummarise l

/-- The desired valve position of a coil that is commanded nothing: 0 where a valve node is bound (R81, R84). -/
def CoilRec.closedValve (r : CoilRec) : Option Nat := if r.valveNode.isSome then some 0 else none

/-- A coil of a loop that failed its start check, or of no loop, or withdrawn: ISOLATED or OUT, no command, no timer (R12). -/
def State.parkCoil (s : State) (c : CoilId) : State :=
  s.modCoil c fun x =>
    { x with service := if (s.cfg.coils[c]).withdrawn ∨ (s.cfg.coils[c]).loop = none then .out else .isolated,
             desiredValve := (s.cfg.coils[c]).closedValve }

/-- A coil enters DORMANT: nothing is kept but the frost state last given (R13, R108). -/
def CoilSt.toDormant (x : CoilSt) : CoilSt := { CoilSt.cold0 with frostGiven := x.frostGiven }

/-- The coil unit's record of a loop at its entry to IDLE: the last FRESH supply is kept (R108). -/
def LoopCoils.toIdle (u : LoopCoils) : LoopCoils := { LoopCoils.cold0 with lastSupply := u.lastSupply }

/-! ## Group requests (R106, R128 to R134) -/

/-- The queues of a loop are served where its count of cycles has fallen, or its permit has been freed, since s (R99, R103). -/
def State.serveLoopSince (t s : State) (l : LoopId) : State :=
  let t1 := if (t.units[l]).kwCount < (s.units[l]).kwCount then t.serveKw l else t
  if (s.units[l]).permit ≠ none ∧ (t.units[l]).permit = none then t1.serveShed l else t1

/-- The queues of every loop, in the same way, in order of loop number (assumption 45). -/
def State.servedSince (t s : State) : State := t.forEach allLoops fun l t => t.serveLoopSince s l

/-- An accepted request over coils is one event (R87, R128): it is applied to every coil it selects before a queue is served, so that no
coil's state changes between the check and its own application. COIL_IN alone serves its keep-warm queue coil by coil, since each coil
that enters ISOLATED makes its request there (R101, R132; assumption 37). -/
def State.wholeRequest (s : State) (f : State → State) : State := s.oneEvent fun s => (f s).servedSince s

/-- A coil enters OUT at once (R130): checks, timers, queues and permit are left, the cause clears; the valve is commanded to 0
where close is set. -/
def State.outAtOnce (s : State) (c : CoilId) (l : LoopId) (close : Bool) : State :=
  let was := (s.coils[c]).service
  let s1 := s.modCoil c fun x =>
    { x with service := .out, stroke := .stopped, kwTimer := .stopped, kwDwell := .stopped }
  let s2 := (((s1.leaveKwQueue l c).leaveShedQueue l c).freePermit l c).uncount l was
  let s3 := if close then (s2.refan c .routine).setValve c 0 .routine else s2
  (s3.event (.coil c) .coil [("detail", .word "OUT"), ("left", .word was.name)]).resummarise l

/-- An admission aborts into RETIRING, CLOSING, with the out-flag (R93, R130). -/
def State.abortIntoOut (s : State) (c : CoilId) (l : LoopId) : State :=
  (((s.modCoil c fun x => { x.endAdmission with service := .retiring .closing true }).setValve c 0 .routine).traceAbort c "OUT"
    none).stagingEnded l

/-- One coil of an accepted COIL_OUT takes the path its service state gives (R129, R130). -/
def State.coilOut (s : State) (c : CoilId) (l : LoopId) : State :=
  let s1 := s.modCoilRec c fun r => { r with withdrawn := true }
  match (s.coils[c]).service with
  | .isolated => s1.outAtOnce c l false
  | .keepwarm _ => s1.outAtOnce c l true
  | .serving => s1.beginRetire c l true
  | .shedding => s1.beginRetire c l true
  | .admitting _ _ _ => s1.abortIntoOut c l
  | .retiring p _ => s1.modCoil c fun x => { x with service := .retiring p true }
  | .faulted _ => s1.outAtOnce c l true
  | .out => s1
  | .dormant => s1

/-- A coil in FAULTED places no new valve command (R84). -/
def Service.placesValve : Service → Bool
  | .faulted _ => false
  | _ => true

/-- An unsent fan point's present desired value is placed again (R131, R132), unless its node is OFFLINE or WRONG_ROLE. -/
def State.resendFan (s : State) (c : CoilId) : State :=
  match (s.cfg.coils[c]).fanNode with
  | some n =>
    if (s.coils[c]).fanUnsent ∧ !(s.nodes[n]).state.isLost then
      (s.modCoil c fun x => { x with fanUnsent := false }).busRequest n (s.coils[c]).desiredFan .routine
    else s
  | none => s

/-- An unsent valve point's present desired value is placed again (R131, R132), unless its node is OFFLINE or WRONG_ROLE, or the coil
places no valve command (R84). -/
def State.resendValve (s : State) (c : CoilId) : State :=
  match (s.cfg.coils[c]).valveNode, (s.coils[c]).desiredValve with
  | some n, some v =>
    if (s.coils[c]).valveUnsent ∧ !(s.nodes[n]).state.isLost ∧ (s.coils[c]).service.placesValve then
      (s.modCoil c fun x => { x with valveUnsent := false }).busRequest n v .routine
    else s
  | _, _ => s

/-- One coil of an accepted COIL_IN (R132): in COMMISSION it stays DORMANT. An emergency request is made as the coil is applied, before
the next coil of the set, and the queue is served at it (assumption 37). -/
def State.coilIn (s : State) (c : CoilId) (l : LoopId) : State :=
  let s1 := s.modCoilRec c fun r => { r with withdrawn := false }
  if (s.coils[c]).service = .out then
    let s2 := ((s1.toIsolated c l).resendFan c).resendValve c
    ((s2.event (.coil c) .coil [("detail", .word "IN")]).resummarise l).emergency c l
  else s1

/-- COIL_CLEAR of one FAULTED coil: RETIRING, CLOSING, out-flag clear (R106). -/
def State.coilCleared (s : State) (c : CoilId) : State :=
  ((s.modCoil c fun x => { x with service := .retiring .closing false }).setValve c 0 .routine).event (.coil c) .coil
    [("detail", .word "CLEARED")]

/-- The effect of KEEPWARM_OK changing (R98, R133). -/
def State.keepwarmChanged (s : State) (c : CoilId) (l : LoopId) : State :=
  if (s.cfg.coils[c]).options.keepwarmOk then
    if s.kwTimed c then s.modCoil c fun x => { x with kwTimer := .running (s.cfg.loops[l]).kwInterval } else s
  else (s.leaveKwQueue l c).modCoil c fun x => { x with kwTimer := .stopped }

/-- A coil's option set is written, and each option that changes has its effect at once (R133); a permit it frees is not offered yet. -/
def State.putOptions (s : State) (c : CoilId) (o : CoilOptions) : State :=
  let old := (s.cfg.coils[c]).options
  let s1 := s.modCoilRec c fun r => { r with options := o }
  match s.coilLoop c with
  | none => s1
  | some l =>
    let s2 := if o.keepwarmOk ≠ old.keepwarmOk then s1.keepwarmChanged c l else s1
    if (old.shedOk && !o.shedOk) || (old.reverseOk && !o.reverseOk) then s2.leaveSheddingIf c "OPTIONS" .routine else s2

/-- One coil's option set is written (R133). -/
def State.setOptions (s : State) (c : CoilId) (o : CoilOptions) : State := s.wholeRequest fun s => s.putOptions c o

/-! ## What the roof bus master gives (R105, R131) -/

/-- COMMAND_LOST for the coil's fan or valve point: unsent in OUT, otherwise a fault where R105 acts on it. -/
def State.coilLost (s : State) (c : CoilId) (fan : Bool) : State :=
  if (s.coils[c]).service = .out then
    s.modCoil c fun x => if fan then { x with fanUnsent := true } else { x with valveUnsent := true }
  else s.coilFault c .lost

/-- A node bound by the coil has changed state (R105, R131): an unsent point waits for its own node. -/
def State.coilNodeChanged (s : State) (c : CoilId) (n : NodeId) : State :=
  let r := s.cfg.coils[c]
  if r.fanNode = some n ∨ r.valveNode = some n then
    if (s.nodes[n]).state.isLost then s.coilFault c .node
    else if (s.nodes[n]).state = .online then
      let s1 := if r.fanNode = some n then s.resendFan c else s
      if r.valveNode = some n then s1.resendValve c else s1
    else s
  else s

/-- A good read of a status point of the coil's nodes holding FAULT (R105). -/
def State.coilStatusArrived (s : State) (c : CoilId) (n : NodeId) (v : Int) : State :=
  if v = codeFault then
    let s1 := if (s.cfg.coils[c]).fanNode = some n then s.coilFault c .fan else s
    if (s.cfg.coils[c]).valveNode = some n then s1.coilFault c .valve else s1
  else s

/-- A good read of the coil's icing point (R102). -/
def State.icingArrived (s : State) (c : CoilId) (v : Int) : State :=
  match s.coilLoop c with
  | some l => if ((s.cfg.loops[l]).icingLimit : Int) ≤ v then s.shedTrigger c else s
  | none => s

end Sys2Proof.Machine
end

