-- ==== Sys2Proof/Machine/Regulator.lean ====
section
/-! DEFINITION. The loop regulator (chapter 3): loop states, pump supervision, failover and flow loss, the proof of flow, the loop tick. -/

namespace Sys2Proof.Machine

/-! ## Events and small changes -/

/-- A LOOP event of a change of loop state: old state, new state, cause (R46). -/
def State.traceLoop (s : State) (l : LoopId) (old new : LoopState) (cause : String) : State :=
  s.event (.loop l) .loop [("old", .word old.name), ("new", .word new.name), ("cause", .word cause)]

/-- The loop takes a new state, traced (R46); a FAILOVER reason stands with FAILOVER alone. -/
def State.setLoopState (s : State) (l : LoopId) (st : LoopState) (reason : Option FailReason) (cause : String) : State :=
  (s.modLoop l fun x => { x with state := st, reason := reason }).traceLoop l (s.loops[l]).state st cause

/-- A LOOP event with a detail word (R64). -/
def State.loopDetail (s : State) (l : LoopId) (w : String) : State := s.event (.loop l) .loop [("detail", .word w)]

/-- A PUMP event for a change of health (R48). -/
def State.tracePumpHealth (s : State) (l : LoopId) (p : PumpId) (health cause : String) : State :=
  s.event (.loop l) .pump [("pump", .word p.name), ("health", .word health), ("cause", .word cause)]

/-- The pump that takes DUTY, traced with its new role (R48). -/
def State.setDuty (s : State) (l : LoopId) (p : PumpId) (cause : String) : State :=
  (s.modLoop l fun x => { x with duty := p }).event (.loop l) .pump
    [("pump", .word p.name), ("role", .word "DUTY"), ("cause", .word cause)]

/-- A pump becomes FAULTED with a cause: a change is traced, and PUMP raised (R48). -/
def State.faultPump (s : State) (l : LoopId) (p : PumpId) (cause : String) : State :=
  if ((s.loops[l]).pump p).faulted then s
  else ((s.modLoop l fun x => x.modPump p fun q => { q with faulted := true }).tracePumpHealth l p "FAULTED" cause).raise .pump

/-- The standby pump. -/
def LoopSt.standby (x : LoopSt) : PumpId := x.duty.other

/-- The fan step is set and given to the coil unit with its urgency (R71). -/
def State.giveFanStep (s : State) (l : LoopId) (k : Nat) (u : Urgency) : State :=
  (s.modLoop l fun x => { x with fanStep := k }).refanLoop l u

/-- The proof timer starts with the loop's prove (R50). -/
def State.startProof (s : State) (l : LoopId) : State :=
  s.modLoop l fun x => { x with proof := .running (s.cfg.loops[l]).prove }

/-! ## Entering states -/

/-- The loop enters RUNNING; proof and low-flow timers stand stopped, and the coil unit is told (R46, R52). -/
def State.enterRunning (s : State) (l : LoopId) (cause : String) : State :=
  ((s.setLoopState l .running none cause).modLoop l fun x => { x with proof := .stopped, lowflow := .stopped }).coilsOnRunning l

/-- The loop enters FLOWLOSS (R59): both pumps URGENT, A first; the fan step; timers; PUMP; then the coil unit is told. -/
def State.enterFlowloss (s : State) (l : LoopId) (cause : String) : State :=
  let s1 := s.setLoopState l .flowloss none cause
  let s2 := (s1.setRun l .a true .urgent).setRun l .b true .urgent
  let s3 := (s2.giveFanStep l 0 .urgent).modLoop l fun x => { x with lowflow := .stopped, proof := .stopped }
  (s3.raise .pump).coilsOnFlowloss l

/-- The pump under proof: the standby in FAILOVER, the duty pump otherwise (R51, R56, R57). -/
def LoopSt.underProof (x : LoopSt) : PumpId := if x.state = .failover then x.standby else x.duty

/-- The proof condition as the loop's state asks it (R50, R60). -/
def State.provedNow (s : State) (l : LoopId) : Bool :=
  match (s.loops[l]).state, (s.loops[l]).reason with
  | .flowloss, _ => s.provedEither l
  | .failover, some .planned => s.provedPlanned l (s.loops[l]).underProof
  | _, _ => s.proved l (s.loops[l]).underProof

/-- Proof succeeds in FAILOVER: the roles swap, and the loop enters RUNNING (R56, R57). -/
def State.failoverProved (s : State) (l : LoopId) : State :=
  let x := s.loops[l]
  match x.reason with
  | some .planned => (((s.setDuty l x.standby "SWAP").setRun l x.duty false .routine)).enterRunning l "PROOF"
  | _ => (s.setDuty l x.standby "FAILOVER").enterRunning l "PROOF"

/-- The proof condition is evaluated (R50, R52, R56, R57, R60). -/
def State.evalProof (s : State) (l : LoopId) : State :=
  match (s.loops[l]).state with
  | .starting => if (s.loops[l]).proof.isRunning ∧ s.provedNow l then s.enterRunning l "PROOF" else s
  | .failover => if (s.loops[l]).proof.isRunning ∧ s.provedNow l then s.failoverProved l else s
  | .flowloss =>
    if s.provedNow l then (if (s.loops[l]).proof.isRunning then s else s.startProof l)
    else s.modLoop l fun x => { x with proof := .stopped }
  | .idle => s
  | .running => s

/-- The loop enters FAILOVER with reason FAULT (R56): candidate RUN URGENT, faulted pump OFF ROUTINE, proof at once. The pump requests are
placed before the coil unit is told (assumption 38). -/
def State.enterFailoverFault (s : State) (l : LoopId) : State :=
  let x := s.loops[l]
  let s1 := s.setLoopState l .failover (some .fault) "FAULT"
  let s2 := (s1.setRun l x.standby true .urgent).setRun l x.duty false .routine
  (((s2.modLoop l fun x => { x with lowflow := .stopped }).startProof l).coilsOnFailover l).evalProof l

/-- The loop enters FAILOVER with reason PLANNED (R57). -/
def State.enterFailoverPlanned (s : State) (l : LoopId) : State :=
  let x := s.loops[l]
  let s1 := (s.setLoopState l .failover (some .planned) "PLANNED").setRun l x.standby true .routine
  (((s1.modLoop l fun x => { x with lowflow := .stopped }).startProof l).coilsOnFailover l).evalProof l

/-- A duty pump that has become FAULTED in STARTING or RUNNING: FAILOVER with a SOUND standby, else FLOWLOSS (R52, R53). -/
def State.dutyFailed (s : State) (l : LoopId) : State :=
  let x := s.loops[l]
  if (x.pump x.standby).faulted then s.enterFlowloss l "FAULT" else s.enterFailoverFault l

/-- The candidate of a failover has failed (R56, R57). -/
def State.candidateFailed (s : State) (l : LoopId) (cause : String) : State :=
  let x := s.loops[l]
  let s1 := s.faultPump l x.standby cause
  match x.reason with
  | some .planned => (s1.setRun l x.standby false .routine).enterRunning l "SWAP_FAILED"
  | _ => s1.enterFlowloss l "FAULT"

/-- The old duty pump fails during a planned swap (R58). -/
def State.plannedDutyFailed (s : State) (l : LoopId) (cause : String) : State :=
  let x := s.loops[l]
  let s1 := (s.faultPump l x.duty cause).modLoop l fun y => { y with reason := some .fault }
  (s1.setRun l x.duty false .routine).setRun l x.standby true .urgent

/-- A fault report about a pump: FAULT status, node gone, command lost (R52, R53, R55, R56, R58, R59). Two reports the rules do not meet are
the model's choice (assumption 38): in FAILOVER FAULT, one about the old duty pump is dropped, be it SOUND again by PUMP_CLEAR; in RUNNING,
one about a duty pump that is FAULTED already leaves RUNNING with no change of health to trace. -/
def State.pumpFault (s : State) (l : LoopId) (p : PumpId) (cause : String) : State :=
  let x := s.loops[l]
  let isDuty := p = x.duty
  match x.state with
  | .idle => s
  | .starting =>
    if isDuty then (s.faultPump l p "START").dutyFailed l
    else s.faultPump l p cause
  | .running =>
    if isDuty then (s.faultPump l p cause).dutyFailed l
    else s.faultPump l p cause
  | .failover =>
    if isDuty then
      match x.reason with
      | some .planned => s.plannedDutyFailed l cause
      | _ => s
    else s.candidateFailed l cause
  | .flowloss => s.faultPump l p cause

/-! ## Starting a loop (R51) -/

/-- The regulator's own part of the entry to STARTING. -/
def State.startLoop (s : State) (l : LoopId) (cause : String) : State :=
  let r := s.cfg.loops[l]
  let s1 := s.setLoopState l .starting none cause
  let x := s1.loops[l]
  let s2 := if (x.pump x.duty).faulted ∧ !(x.pump x.standby).faulted then s1.setDuty l x.standby "START" else s1
  let y := s2.loops[l]
  let s3 := ((s2.setRun l y.duty true .routine).setRun l y.standby false .routine).setBypass l 100 .routine
  (s3.giveFanStep l 0 .routine).modLoop l fun z =>
    { z with blind := false, cold := false, satWarm := false, satCold := false, blindCount := 0, holdoff := .running r.holdoff,
             tick := .running r.tick, sampleCount := 0, proof := .running r.prove }

/-- The rotation timer starts at entry to STARTING (R80). -/
def State.startRotation (s : State) (l : LoopId) : State :=
  s.modUnit l fun u =>
    { u with rotation := if (s.cfg.loops[l]).rotateInterval = 0 then .stopped else .running (s.cfg.loops[l]).rotateInterval }

/-- A loop that passed its start check enters STARTING: the regulator's requests, the coils' adoption, then the proof (R12, R50). -/
def State.enterStarting (s : State) (l : LoopId) (cause : String) : State :=
  (((s.startLoop l cause).startRotation l).adopt l).evalProof l

/-! ## Flow events (R50, R54) -/

/-- The low-flow timer at an event that changes the flow value or its knowledge (R54). -/
def State.lowflowEvent (s : State) (l : LoopId) : State :=
  match s.flowTest l with
  | some false =>
    if (s.loops[l]).lowflow.isRunning then s
    else s.modLoop l fun x => { x with lowflow := .running (s.cfg.loops[l]).flowlossTime }
  | _ => s.modLoop l fun x => { x with lowflow := .stopped }

/-- An event that can change the proof condition (R50): in RUNNING it acts on the low-flow timer. -/
def State.flowEvent (s : State) (l : LoopId) : State :=
  if (s.loops[l]).state = .running then s.lowflowEvent l else s.evalProof l

/-- A good read of a pump's status point: FAULT is a fault report, and proof is evaluated (R50, R53). That a FAULT reading which takes the
loop into FLOWLOSS, or turns a planned failover to reason FAULT, is itself evaluated in the state it produced, where a fault by NODE or LOST
is not, is the model's choice (assumption 49). -/
def State.pumpStatusArrived (s : State) (l : LoopId) (p : PumpId) (v : Int) : State :=
  let s1 := if v = codeFault then s.pumpFault l p "STATUS" else s
  if (s1.loops[l]).state = .running then s1 else s1.evalProof l

/-- A change in the freshness of a pump's status point (R50). -/
def State.pumpFreshness (s : State) (l : LoopId) : State :=
  if (s.loops[l]).state = .running then s else s.evalProof l

/-! ## Expiries -/

/-- The proof timer expires in STARTING or FAILOVER (R52, R56, R57). -/
def State.proofExpired (s : State) (l : LoopId) : State :=
  match (s.loops[l]).state with
  | .starting => (s.faultPump l (s.loops[l]).duty "START").dutyFailed l
  | .failover => s.candidateFailed l "PROOF"
  | _ => s

/-- The pump chosen at the end of a flow loss (R60). -/
def State.recoverPump (s : State) (l : LoopId) : PumpId :=
  if s.pumpRunning l .a then .a else if s.pumpRunning l .b then .b else (s.loops[l]).duty

/-- A FAULTED pump becomes SOUND, traced with its cause (R48); a SOUND pump is left so. -/
def State.soundPump (s : State) (l : LoopId) (p : PumpId) (cause : String) : State :=
  if ((s.loops[l]).pump p).faulted then
    (s.modLoop l fun x => x.modPump p fun q => { q with faulted := false }).tracePumpHealth l p "SOUND" cause
  else s

/-- The pump chosen at the end of a flow loss becomes SOUND and takes DUTY (R60). Each change of health or role is traced with cause
RECOVER (R48); where neither changes, the role it keeps is traced, since R60 traces one such event always (assumption 16). -/
def State.takeRecovered (s : State) (l : LoopId) (p : PumpId) : State :=
  let x := s.loops[l]
  let s1 := s.soundPump l p "RECOVER"
  if p = x.duty ∧ (x.pump p).faulted then s1 else s1.setDuty l p "RECOVER"

/-- The proof timer expires in FLOWLOSS (R60). -/
def State.flowlossEnded (s : State) (l : LoopId) : State :=
  let p := s.recoverPump l
  ((((s.takeRecovered l p).setRun l p.other false .routine)).raise .pump).enterRunning l "RECOVER"

/-- The low-flow timer expires: a duty pump fault with cause FLOW (R53, R54). -/
def State.lowflowExpired (s : State) (l : LoopId) : State := s.pumpFault l (s.loops[l]).duty "FLOW"

/-! ## The loop tick (R62 to R68) -/

/-- The freshness of the loop's supply point, for the BLIND event (R63). -/
def State.supplyFreshness (s : State) (l : LoopId) : Freshness :=
  match (s.cfg.loops[l]).supplyPt with
  | some pt => (s.pointEntry pt).fresh
  | none => .absent

/-- The fan demand of a loop in percent (R47). -/
def State.fanDemandPct (s : State) (l : LoopId) : Nat := (s.loops[l]).fanStep * (s.cfg.loops[l]).fanStep

/-- The sample the loop offers (R75). -/
def State.sampleOf (s : State) (l : LoopId) : Sample :=
  { sup := s.supply l, ret := s.return l, flow := s.flow l, tgt := (s.effective l).target, fan := s.fanDemandPct l,
    byp := (s.loops[l]).bypass, srv := s.servingCount l, plan := (s.plans[l]).state }

/-- The sample count of a tick, and the sample it offers (R62). -/
def State.sampleTick (s : State) (l : LoopId) : State :=
  let every := (s.cfg.loops[l]).sampleEvery
  if every = 0 then s.modLoop l fun x => { x with sampleCount := 0 }
  else if every ≤ (s.loops[l]).sampleCount + 1 then
    (s.offer (.loop l) (.sample (s.sampleOf l))).modLoop l fun x => { x with sampleCount := 0 }
  else s.modLoop l fun x => { x with sampleCount := x.sampleCount + 1 }

/-- Step 1 of a tick with a supply that is not FRESH (R63). -/
def State.blindTick (s : State) (l : LoopId) : State :=
  let s1 := s.modLoop l fun x => { x with blind := true, blindCount := min Config.countMax (x.blindCount + 1) }
  if (s.loops[l]).blind then s1
  else s1.event (.loop l) .blind [("fresh", .word (s.supplyFreshness l).name)]

/-- Step 1 of a tick with a FRESH supply: BLIND clears (R63). -/
def State.sighted (s : State) (l : LoopId) : State :=
  if (s.loops[l]).blind then
    ((s.modLoop l fun x => { x with blind := false }).event (.loop l) .blind
      [("detail", .word "CLEAR"), ("blind", .int (s.loops[l]).blindCount)]).modLoop l fun x => { x with blindCount := 0 }
  else s

/-- Step 2 of a tick: the floor (R64). -/
def State.coldStep (s : State) (l : LoopId) (supply : Temp) : State :=
  let floor := (s.cfg.loops[l]).floor
  if supply < floor ∧ !(s.loops[l]).cold then
    ((s.modLoop l fun x => { x with cold := true }).giveFanStep l 0 .urgent).loopDetail l "COLD_SET"
  else if (s.loops[l]).cold ∧ floor + 5 ≤ supply then
    (s.modLoop l fun x => { x with cold := false }).loopDetail l "COLD_CLEAR"
  else s

/-- The ceiling steps: floor(ceiling / fan_step) (R65). -/
def State.ceilingSteps (s : State) (l : LoopId) : Nat := (s.effective l).ceiling / (s.cfg.loops[l]).fanStep

/-- Step 3, action 1: the fan step is lowered to the ceiling steps (R65). -/
def State.ceilingStep (s : State) (l : LoopId) : State :=
  if s.ceilingSteps l < (s.loops[l]).fanStep then s.giveFanStep l (s.ceilingSteps l) .routine else s

def State.setSatWarm (s : State) (l : LoopId) : State := s.modLoop l fun x => { x with satWarm := true }
def State.clearSats (s : State) (l : LoopId) : State := s.modLoop l fun x => { x with satWarm := false, satCold := false }

/-- Step 3, actions 2 and 3: a request that ends the tick, or none (R65, R66). -/
def State.countStep (s : State) (l : LoopId) : Option State :=
  let e := s.effective l
  if s.servingCount l + s.admittingCount l < e.minCoils ∧ !s.staging l ∧ !(s.loops[l]).cold then
    match s.upRequest l with
    | (s1, true) => some s1
    | (s1, false) => some (s1.setSatWarm l)
  else if e.maxCoils < s.servingCount l ∧ !s.staging l then some (s.downRequest l).1
  else none

/-- The holdoff timer has elapsed. -/
def LoopSt.holdoffElapsed (x : LoopSt) : Bool := x.holdoff = .stopped

/-- Step 4, too warm (R67). -/
def State.tooWarm (s : State) (l : LoopId) : State :=
  let x := s.loops[l]
  let e := s.effective l
  if x.cold then s.setSatWarm l
  else if 0 < x.bypass ∧ 1 ≤ s.servingCount l then
    (s.modLoop l fun y => { y with satCold := false }).setBypass l (x.bypass - (s.cfg.loops[l]).bypassStep) .routine
  else if x.fanStep < s.ceilingSteps l ∧ s.summaries[l] ≠ .tripped then
    (s.modLoop l fun y => { y with satCold := false }).giveFanStep l (x.fanStep + 1) .routine
  else if s.servingCount l + s.admittingCount l < e.maxCoils ∧ !s.staging l ∧ x.holdoffElapsed then
    match s.upRequest l with
    | (s1, true) => s1.clearSats l
    | (s1, false) => s1.setSatWarm l
  else s.setSatWarm l

/-- Step 4, too cold, action 3 on (R68). -/
def State.raiseBypass (s : State) (l : LoopId) : State :=
  let x := s.loops[l]
  if x.bypass < 100 then
    (s.modLoop l fun y => { y with satWarm := false }).setBypass l (min 100 (x.bypass + (s.cfg.loops[l]).bypassStep)) .routine
  else s.modLoop l fun y => { y with satCold := true }

/-- Step 4, too cold (R68). -/
def State.tooCold (s : State) (l : LoopId) : State :=
  let x := s.loops[l]
  if 0 < x.fanStep then (s.modLoop l fun y => { y with satWarm := false }).giveFanStep l (x.fanStep - 1) .routine
  else if (s.effective l).minCoils < s.servingCount l ∧ !s.staging l ∧ x.holdoffElapsed then
    match s.downRequest l with
    | (s1, true) => s1.clearSats l
    | (s1, false) => s1.raiseBypass l
  else s.raiseBypass l

/-- Step 4: the band (R67, R68). -/
def State.bandStep (s : State) (l : LoopId) (supply : Temp) : State :=
  let e := s.effective l
  if e.band < supply - e.target then s.tooWarm l
  else if supply - e.target < -e.band then s.tooCold l
  else s.clearSats l

/-- The four steps of a tick in RUNNING (R63 to R68). -/
def State.regulate (s : State) (l : LoopId) : State :=
  match s.supply l with
  | none => s.blindTick l
  | some v =>
    let s1 := ((s.sighted l).coldStep l v).ceilingStep l
    match s1.countStep l with
    | some s2 => s2
    | none => s1.bandStep l v

/-- A loop tick (R62): timer, sample, the hold of an admission (R91), then regulation in RUNNING or the proof elsewhere. -/
def State.loopTick (s : State) (l : LoopId) : State :=
  let s1 := s.modLoop l fun x => { x with tick := .running (s.cfg.loops[l]).tick }
  let s2 := (s1.sampleTick l).evalHold l
  if (s.loops[l]).state = .running then (s2.lowflowEvent l).regulate l else s2.evalProof l

/-! ## The change to IDLE (R13, R73) -/

/-- What entry to IDLE leaves of a loop's record: the fan step, bypass and runs, roles and health are kept (R73). -/
def LoopSt.toIdle (x : LoopSt) : LoopSt :=
  { x with state := .idle, reason := none, bypassUnsent := false,
           pumpA := { x.pumpA with unsent := false }, pumpB := { x.pumpB with unsent := false },
           blind := false, cold := false, satWarm := false, satCold := false, blindCount := 0, holdoff := .stopped,
           proof := .stopped, lowflow := .stopped, tick := .stopped, sampleCount := 0, configFault := false, check := [] }

/-- A loop goes to IDLE at a change to COMMISSION; a LOOP event is traced where its state changes (R73). -/
def State.idleLoop (s : State) (l : LoopId) : State :=
  let s1 := s.modLoop l LoopSt.toIdle
  if (s.loops[l]).state = .idle then s1 else s1.traceLoop l (s.loops[l]).state .idle "MODE"

/-! ## What the roof bus master gives (R53, R72) -/

/-- COMMAND_LOST for a pump's run point (R72). -/
def State.runLost (s : State) (l : LoopId) (p : PumpId) : State :=
  if (s.loops[l]).state = .idle then s
  else (s.modLoop l fun x => x.modPump p fun q => { q with unsent := true }).pumpFault l p "LOST"

/-- COMMAND_LOST for the loop's bypass point (R72). -/
def State.bypassLost (s : State) (l : LoopId) : State :=
  if (s.loops[l]).state = .idle then s else s.modLoop l fun x => { x with bypassUnsent := true }

/-- An unsent run point is sent again (R72). -/
def State.resendRun (s : State) (l : LoopId) (p : PumpId) : State :=
  if ((s.loops[l]).pump p).unsent then
    (s.modLoop l fun x => x.modPump p fun q => { q with unsent := false }).setRun l p ((s.loops[l]).pump p).run .routine
  else s

/-- An unsent bypass point is sent again (R72). -/
def State.resendBypass (s : State) (l : LoopId) : State :=
  if (s.loops[l]).bypassUnsent then
    (s.modLoop l fun x => { x with bypassUnsent := false }).setBypass l (s.loops[l]).bypass
      (if (s.loops[l]).bypass = 100 ∧ s.servingCount l = 0 then .urgent else .routine)
  else s

/-- A pump's node has changed state (R53, R72). -/
def State.pumpNodeChanged (s : State) (l : LoopId) (p : PumpId) (st : NodeState) : State :=
  if st.isLost then s.pumpFault l p "NODE" else if st = .online then s.resendRun l p else s

end Sys2Proof.Machine
end

