-- ==== Sys2Proof/Machine/Frost.lean ====
section
/-! DEFINITION. The frost monitor (chapter 5): evaluation of coils, the handing on of a change, and COMMAND_LOST reports given to owners. -/

namespace Sys2Proof.Machine

/-! ## A change of frost state (R116, R123) -/

/-- Whether a change raises the FROST source: into or out of TRIP (R123). -/
def frostRaises (old new : FrostState) : Bool := old ≠ new && (old = .trip || new = .trip)

/-- A coil's frost state changes (R116): record, summary, FROST event and source, then the coil unit. -/
def State.frostChange (s : State) (c : CoilId) (new : FrostState) (cause : FrostCause) : State :=
  let old := (s.frost[c]).state
  let s1 := (s.modFrost c fun r => { r with state := new, since := s.uptime, cause := cause }).resummariseCoil c
  let s2 := s1.event (.coil c) .frost
    [("loop", loopVal (s1.coilLoop c)), ("old", .word old.name), ("new", .word new.name), ("cause", .word cause.name),
     ("value", optTempU (s1.frost[c]).value)]
  (if frostRaises old new then s2.raise .frost else s2).frostToCoil c new

/-- The frost state becomes new: handed on where it differs (R112, R116). -/
def State.setFrost (s : State) (c : CoilId) (new : FrostState) (cause : FrostCause) : State :=
  if (s.frost[c]).state = new then s else s.frostChange c new cause

/-- The classified value of a coil is recorded. -/
def State.setFrostValue (s : State) (c : CoilId) (v : Option Temp) : State := s.modFrost c fun r => { r with value := v }

/-! ## Evaluation (R112 to R115) -/

/-- A good read of an assigned coil's outlet point (R112). -/
def State.outletArrived (s : State) (c : CoilId) (v : Temp) : State :=
  match s.coilLoop c with
  | none => s
  | some l => (s.setFrostValue c (some v)).setFrost c (classify (s.cfg.loops[l]) (s.frost[c]).state v) .reading

/-- The outlet point of an assigned coil has fallen from FRESH (R113). -/
def State.outletLost (s : State) (c : CoilId) (cause : FrostCause) : State :=
  match s.coilLoop c with
  | none => s
  | some _ => s.setFrost c .unknown cause

/-- A coil's loop or outlet point has changed: classified afresh (R114). -/
def State.rebindFrost (s : State) (c : CoilId) : State :=
  match s.coilLoop c, s.freshAt (s.cfg.coils[c]).outletPt with
  | some l, some v => (s.setFrostValue c (some v)).setFrost c (classify (s.cfg.loops[l]) .unknown v) .binding
  | _, _ => (s.setFrostValue c none).setFrost c .unknown .binding

/-- The frost limits of a loop have changed: each coil whose outlet point is FRESH is classified again (R115), in order
of coil number (assumption 39). -/
def State.reclassifyLoop (s : State) (l : LoopId) : State :=
  (s.forEach (s.loopCoils l) fun c s =>
    match s.freshAt (s.cfg.coils[c]).outletPt with
    | some v => (s.setFrostValue c (some v)).setFrost c (classify (s.cfg.loops[l]) (s.frost[c]).state v) .limits
    | none => s).resummarise l

/-- Every summary is recomputed (R121, R126). -/
def State.resummariseAll (s : State) : State := s.forEach allLoops fun l s => s.resummarise l

/-! ## COMMAND_LOST reports given to their owners (R153, R155, R156) -/

/-- COMMAND_LOST is given to the owner of the point (R153, R155, R156). -/
def State.giveLost (s : State) (n : NodeId) : State :=
  match s.ownerOf n with
  | some (.coilFan c) => s.coilLost c true
  | some (.coilValve c) => s.coilLost c false
  | some (.pump l p) => s.runLost l p
  | some (.bypass l) => s.bypassLost l
  | none => s

/-- The reports on their way are given one by one, those that giving one causes after it. The bound is far above what one command
can cause: each owner faults at most once (assumption 5). -/
def State.deliverN : Nat → State → State
  | 0, s => s.modBus fun b => { b with lost := [] }
  | k + 1, s =>
    match s.bus.lost with
    | [] => s
    | n :: rest => State.deliverN k ((s.modBus fun b => { b with lost := rest }).giveLost n)

/-- Every COMMAND_LOST report on its way reaches its owner. -/
def State.deliverLost (s : State) : State := State.deliverN 4096 s

end Sys2Proof.Machine
end

