-- ==== Sys2Proof/Machine/Input.lean ====
section
/-! DEFINITION. The input unit (chapter 8): pulse channels, discrete inputs and SVC, plant conditions, the outdoor selection. -/

namespace Sys2Proof.Machine

/-! ## Outdoor selection (R169, R170) -/

/-- The selection is made again; a change of source is traced (R169). -/
def State.reselect (s : State) : State :=
  let new := s.selectOutdoor
  let old := s.inputs.outdoor
  let s1 := s.modInputs fun i => { i with outdoor := new }
  if new.sourceName = old.sourceName then s1
  else s1.event .outdoor .input
    [("old", .word old.sourceName), ("new", .word new.sourceName), ("value", optTempU new.temp)]

/-- The host value expires (R170). -/
def State.hostExpired (s : State) : State :=
  ((s.modInputs fun i => { i with host := none }).event .outdoor .input [("detail", .word "HOST_EXPIRED")]).reselect

/-! ## Pulse channels (R162 to R165) -/

/-- The loops that name a channel as flow_src (R162). -/
def State.flowLoops (s : State) (p : ChanId) : List LoopId :=
  allLoops.filter fun l => (s.cfg.loops[l]).flowSrc = some (.pulse p)

/-- Whether the site names the channel as outdoor_pulse (R162). -/
def State.isOutdoorChan (s : State) (p : ChanId) : Bool := s.cfg.site.outdoorPulse = some p

/-- A channel's result is handed on by its role (R165): to each loop that names it, in the order L0 to L3, the model's choice where several
do (assumption 39). -/
def State.handOnChan (s : State) (p : ChanId) : State :=
  let s1 := s.forEach (s.flowLoops p) fun l s => s.flowEvent l
  if s.isOutdoorChan p then s1.reselect else s1

/-- Whether the input stands at the active level: high for RISE, low for FALL (R163). -/
def activeLevel (e : Edge) (pin : Bool) : Bool :=
  match e with
  | .rise => pin
  | .fall => !pin

/-- Microseconds of uptime at the start of a whole second. -/
def secondMicros (t : Nat) : Nat := t * Config.microsPerSecond

/-- A channel's measurement after a restart (R165). A pin that stands at the active level has stood at it since it took that level, or,
where that was in an earlier second, since the present gate began (R163); that the time it spent there before its last change of level is
discarded with the edge times is the model's reading (assumption 21). -/
def Chan.restarted (x : Chan) (r : ChanRec) (now : Nat) : Chan :=
  { pin := x.pin, levelSince := x.levelSince, status := if r.mode = .off then .off else .silent, value := none, count := 0,
    lastCount := 0, lastEdge := none, periodEdge := none, interval := none,
    activeSince := if r.mode ≠ .off ∧ activeLevel r.edge x.pin then some (max x.levelSince (secondMicros now)) else none,
    activeTime := 0, gateStart := now, restartedAt := now }

/-- A channel is restarted (R165): traced with its cause, raising nothing, and handed on. -/
def State.restartChan (s : State) (p : ChanId) (cause : String) : State :=
  let s1 := s.modChan p fun x => x.restarted (s.cfg.chans[p]) s.uptime
  (s1.event (.chan p) .pulse [("cause", .word cause)]).handOnChan p

/-- An active edge is counted and timed (R163, R164). -/
def Chan.activeEdge (x : Chan) (t : Nat) : Chan :=
  { x with count := x.count + 1, lastEdge := some t, interval := x.periodEdge.map fun t0 => t - t0, periodEdge := some t,
           activeSince := some t }

/-- An inactive edge ends a time at the active level (R163). -/
def Chan.inactiveEdge (x : Chan) (t : Nat) : Chan :=
  { x with activeTime := match x.activeSince with
             | some t0 => x.activeTime + (t - t0)
             | none => x.activeTime,
           activeSince := none }

/-- A change of level on a pulse input, at a microsecond of uptime (R163). -/
def State.pulseEdge (s : State) (p : ChanId) (e : Edge) (t : Nat) : State :=
  let r := s.cfg.chans[p]
  s.modChan p fun x =>
    let y := { x with pin := e = .rise, levelSince := t }
    if r.mode = .off then y
    else if e = r.edge then y.activeEdge t
    else y.inactiveEdge t

/-- The end of the gate in progress, in microseconds of uptime. -/
def Chan.gateEndMicros (x : Chan) : Nat := secondMicros (x.gateStart + 1)

/-- The silence condition at a gate's end (R165). -/
def Chan.silentNow (x : Chan) (r : ChanRec) : Bool :=
  secondMicros r.silence ≤ x.gateEndMicros - (x.lastEdge.getD (secondMicros x.restartedAt))

/-- Time at the active level in the gate, to its end (R163). -/
def Chan.activeInGate (x : Chan) : Nat :=
  match x.activeSince with
  | some t0 => x.activeTime + (x.gateEndMicros - t0)
  | none => x.activeTime

/-- The value a COUNT gate with edges gives, none where it is out of range (R163); scale in tenths of a pulse per litre. -/
def countValue (count scale : Nat) : Option Nat :=
  let v := count * 600 / scale
  if 10000 < count ∨ 60000 < v then none else some v

/-- The value an interval gives, none where it is out of range (R164). -/
def periodValue (d : Nat) : Option Nat := if d < 100 ∨ 10000000 < d then none else some d

/-- The share of the gate at the active level, in tenths of a percent (R164). -/
def widthValue (active : Nat) : Nat := min 1000 (active / 1000)

/-- Status and value from a gate's result: VALID, or OVERRANGE where the value is out of range (R165). -/
def gateResult (v : Option Nat) : ChanStatus × Option Nat :=
  match v with
  | some n => (.valid, some n)
  | none => (.overrange, none)

/-- Status and value at the end of a gate of a channel that is not silent (R163 to R165). A COUNT gate with no edges gives 0
while the channel is VALID. -/
def Chan.measured (x : Chan) (r : ChanRec) : ChanStatus × Option Nat :=
  match r.mode with
  | .off => (x.status, x.value)
  | .count =>
    if 0 < x.count then gateResult (countValue x.count r.scale)
    else (x.status, if x.status = .valid then some 0 else x.value)
  | .period =>
    match x.interval with
    | some d => gateResult (periodValue d)
    | none => (x.status, x.value)
  | .width =>
    if 0 < x.count ∨ x.status ≠ .silent then (.valid, some (widthValue x.activeInGate)) else (x.status, x.value)

/-- The channel at the end of a gate (R165), with the next gate begun. -/
def Chan.gateEnded (x : Chan) (r : ChanRec) : Chan :=
  let silent := x.silentNow r
  let res := if silent then (.silent, none) else x.measured r
  { x with status := res.1, value := res.2, count := 0, lastCount := x.count, interval := none,
           periodEdge := if silent ∧ x.status ≠ .silent then none else x.periodEdge,
           activeTime := 0, activeSince := x.activeSince.map fun _ => x.gateEndMicros, gateStart := x.gateStart + 1 }

/-- A gate ends (R165): a change of status is traced, SILENT raises PULSE, and the result is handed on. Gates begin and end with the uptime
seconds (R163), so the gate in progress has an end only where the uptime has passed the second it began at (assumption 2). -/
def State.gateEnd (s : State) (p : ChanId) : State :=
  let r := s.cfg.chans[p]
  if r.mode = .off ∨ s.uptime ≤ ((s.inputs.chans)[p]).gateStart then s
  else
    let old := ((s.inputs.chans)[p]).status
    let s1 := s.modChan p fun x => x.gateEnded r
    let new := (s1.inputs.chans)[p]
    let s2 :=
      if new.status = old then s1
      else
        let s2 := s1.event (.chan p) .pulse
          [("old", .word old.name), ("new", .word new.status.name), ("value", optIntU (new.value.map fun v => (v : Int)))]
        if new.status = .silent then s2.raise .pulse else s2
    s2.handOnChan p

/-! ## Discrete inputs and SVC (R166 to R168) -/

/-- The plant conditions are recomputed and given to the coil unit (R167): the plant stop before the snow warning, where one request changes
both (assumption 37). -/
def State.recomputeConditions (s : State) : State :=
  let stop := s.roleActive .plantStop
  let snow := s.roleActive .snowWarn
  let s1 := s.modInputs fun i => { i with plantStop := stop, snowWarn := snow }
  let s2 := if stop = s.inputs.plantStop then s1 else s1.forEach allCoils fun c s => s.refan c .urgent
  if snow && !s.inputs.snowWarn then s2.snowTrigger else s2

/-- Whether a change of state raises the INPUT source (R167). -/
def InputNotice.raises (n : InputNotice) (active : Bool) : Bool :=
  match n with
  | .none => false
  | .rise => active
  | .fall => !active
  | .both => true

/-- A change of an input's debounced state (R167). -/
def State.inputChanged (s : State) (i : InputId) : State :=
  let r := s.cfg.inputs[i]
  let active := s.inputActive i
  let s1 := if r.role ≠ .none ∨ r.notice ≠ .none then
      s.event (.input i) .input [("state", .word (activeName active)), ("role", .word r.role.name)]
    else s
  (if r.notice.raises active then s1.raise .input else s1).recomputeConditions

/-- A change of SVC's debounced state (R168). -/
def State.svcChanged (s : State) : State :=
  (s.event .svc .input [("state", .word (activeName s.svcActive))]).raise .input

/-- A pin's change of level: it starts the debounce timer, or a return to the debounced level stops it (R166). -/
def Contact.pinMoved (x : Contact) (high : Bool) (debounce : Nat) : Contact :=
  if high = x.pin then x
  else { x with pin := high, timer := if high = x.debounced then none else some debounce }

/-- The debounce timer expires: the new pin level becomes the debounced level (R166). -/
def Contact.settled (x : Contact) : Contact := { x with debounced := x.pin, timer := none }

def State.modContact (s : State) (i : InputId) (f : Contact → Contact) : State :=
  s.modInputs fun x => { x with contacts := x.contacts.set i (f x.contacts[i]) }

def State.pinMoved (s : State) (pin : Pin) (high : Bool) : State :=
  match pin with
  | .d i => s.modContact i fun x => x.pinMoved high (s.cfg.inputs[i]).debounce
  | .svc => s.modInputs fun x => { x with svc := x.svc.pinMoved high Config.svcDebounce }

def State.debounceExpired (s : State) (pin : Pin) : State :=
  match pin with
  | .d i =>
    if (((s.inputs.contacts)[i]).timer).isSome then (s.modContact i Contact.settled).inputChanged i else s
  | .svc =>
    if (s.inputs.svc.timer).isSome then (s.modInputs fun x => { x with svc := x.svc.settled }).svcChanged else s

/-- The debounced levels taken from the pins at a cold start, the timers stopped (R166, R168). -/
def Contact.atStart (high : Bool) : Contact := ⟨high, high, none⟩

end Sys2Proof.Machine
end

