-- ==== Sys2Proof/Machine/Layout.lean ====
section
/-! DEFINITION. The text of host lines and the bytes of roof frames: value forms, CRC-8, CRC-16, line and frame layouts (R185, R186, R194, R195). -/

namespace Sys2Proof.Machine

/-! ## Checks -/

/-- One bit step of a left-shifting CRC of width w: shift, and take the polynomial off where a one falls out. -/
def crcBit {w : Nat} (poly : BitVec w) (r : BitVec w) : BitVec w :=
  if r.msb then (r <<< 1) ^^^ poly else r <<< 1

/-- The CRC-8 of R185: polynomial x^8 + x^2 + x + 1, initial value 0, high bit first, no final inversion. -/
def crc8Byte (r : BitVec 8) (b : Byte) : BitVec 8 :=
  (List.range 8).foldl (fun r _ => crcBit 0x07#8 r) (r ^^^ b)

def crc8 (bs : List Byte) : BitVec 8 := bs.foldl crc8Byte 0#8

/-- The CRC-16 of R195: polynomial x^16 + x^15 + x^2 + 1, initial value hexadecimal FFFF, high bit first. -/
def crc16Byte (r : BitVec 16) (b : Byte) : BitVec 16 :=
  (List.range 8).foldl (fun r _ => crcBit 0x8005#16 r) (r ^^^ (b.zeroExtend 16 <<< 8))

def crc16 (bs : List Byte) : BitVec 16 := bs.foldl crc16Byte 0xFFFF#16

/-! ## Value forms (R186, R194) -/

/-- An upper-case hexadecimal digit. -/
def hexDigit (n : Nat) : Char := if n < 10 then Char.ofNat (48 + n) else Char.ofNat (55 + n)

/-- A mask: x and four upper-case hexadecimal digits (R194). -/
def maskText (m : CoilSet) : String :=
  let n := m.toNat
  String.ofList ['x', hexDigit (n / 4096 % 16), hexDigit (n / 256 % 16), hexDigit (n / 16 % 16), hexDigit (n % 16)]

/-- An integer: an optional minus sign and decimal digits. -/
def intText (n : Int) : String := if n < 0 then "-" ++ toString n.natAbs else toString n.natAbs

/-- A temperature, always with one decimal place (R194). -/
def tempText (t : Temp) : String :=
  (if t < 0 then "-" else "") ++ toString (t.natAbs / 10) ++ "." ++ toString (t.natAbs % 10)

def yesNoText (b : Bool) : String := if b then "yes" else "no"

def joinWith (sep : String) : List String → String
  | [] => ""
  | [w] => w
  | w :: v :: ws => w ++ sep ++ joinWith sep (v :: ws)

/-- A value as it is written. -/
def Val.text : Val → String
  | .none => "none"
  | .unknown => "NONE"
  | .word w => w
  | .words ws => if ws.isEmpty then "none" else joinWith "," ws
  | .int n => intText n
  | .temp t => tempText t
  | .mask m => maskText m
  | .yesNo b => yesNoText b

/-- Pairs key=value, each after a space. -/
def fieldsText (fs : List Field) : String := String.join (fs.map fun f => " " ++ f.1 ++ "=" ++ f.2.text)

/-- Pairs key=value separated by single spaces. -/
def pairsText (fs : List Field) : String := joinWith " " (fs.map fun f => f.1 ++ "=" ++ f.2.text)

/-! ## Host lines -/

/-- The bytes of a text of plain characters. -/
def textBytes (s : String) : List Byte := s.toList.map fun c => BitVec.ofNat 8 c.toNat

/-- Two upper-case hexadecimal digits of check. -/
def checkDigits (r : BitVec 8) : String := String.ofList [hexDigit (r.toNat / 16), hexDigit (r.toNat % 16)]

/-- A whole line: content, `#`, check digits; CR LF follow on the wire (R194). -/
def lineText (content : String) : String := content ++ "#" ++ checkDigits (crc8 (textBytes content))

/-- A line with its CR LF, as bytes on the wire. -/
def lineBytes (content : String) : List Byte := textBytes (lineText content) ++ [0x0D#8, 0x0A#8]

/-- The header of a reply; a multi-line reply's header also carries lines=n (R188, R194), after every other key: the model's choice
(assumption 51). -/
def headerText (name : String) (st : Status) (keys : List Field) (lines : Option (List (List Field))) : String :=
  "=" ++ name ++ " " ++ st.name ++ fieldsText keys ++
    (match lines with
     | some ls => " lines=" ++ toString ls.length
     | none => "")

/-- The content of every line of a placement, in order (R188, R189, R194). -/
def Placement.contents : Placement → List String
  | .reply name st keys lines => headerText name st keys lines :: (lines.getD []).map fun fs => "+" ++ pairsText fs
  | .err cause => ["=ERR cause=" ++ cause.name]
  | .notice sources => ["!NOTICE pending=" ++ joinWith "," (sources.map Source.name)]

/-- A placement as the bytes the transmitter puts on the line. -/
def Placement.bytes (p : Placement) : List Byte := p.contents.flatMap lineBytes

/-! ## Trace entries as TRACE_READ writes them (R194) -/

def Sample.fields (x : Sample) : List Field :=
  [("sup", optTempU x.sup), ("ret", optTempU x.ret), ("flow", optIntU x.flow), ("tgt", .temp x.tgt), ("fan", .int x.fan),
   ("byp", .int x.byp), ("srv", .int x.srv), ("plan", .word x.plan.name)]

def TraceBody.kindName : TraceBody → String
  | .sample _ => "SAMPLE"
  | .event _ _ => "EVENT"
  | .gap _ _ => "GAP"

def TraceBody.fields : TraceBody → List Field
  | .sample x => x.fields
  | .event code detail => ("code", .word code.name) :: detail
  | .gap missed since => [("missed", .int missed), ("since", .int since)]

/-- The continuation line of one entry. -/
def TraceEntry.fields (idx : Nat) (e : TraceEntry) : List Field :=
  [("idx", .int idx), ("t", .int e.t), ("kind", .word e.body.kindName), ("subj", .word e.subj.name)] ++ e.body.fields

/-! ## Roof frames (R195) -/

def TxKind.code : TxKind → Byte
  | .read => 1#8
  | .write => 2#8
  | .ident => 3#8

/-- A node's bus address, 1 to 31. -/
def nodeAddress (n : NodeId) : Byte := BitVec.ofNat 8 (n.val + 1)

/-- Five bytes followed by their CRC-16, high byte first. -/
def sealFrame (bs : List Byte) : List Byte :=
  let c := crc16 bs
  bs ++ [(c >>> 8).truncate 8, c.truncate 8]

/-- The frame from the master: address, kind, point, value high byte then low (0 for READ and IDENT), check. -/
def requestFrame (kind : TxKind) (n : NodeId) (point : Nat) (value : Int) : List Byte :=
  let v : BitVec 16 := match kind with
    | .write => BitVec.ofInt 16 value
    | .read => 0
    | .ident => 0
  let p : Byte := match kind with
    | .ident => 0
    | .read => BitVec.ofNat 8 point
    | .write => BitVec.ofNat 8 point
  sealFrame [nodeAddress n, kind.code, p, (v >>> 8).truncate 8, v.truncate 8]

/-- The status codes of a reply; any other makes it BADFRAME. -/
def statusOfCode (b : Byte) : Option BusStatus :=
  if b = 0#8 then some .accept else if b = 1#8 then some .refuse else if b = 2#8 then some .driveFault else none

/-- A signed value from its high and low byte. -/
def signedValue (hi lo : Byte) : Int := (hi ++ lo).toInt

/-- A complete reply to a transaction of this kind to this node: its status and value, or none where the frame is bad
(check, address, kind, or a status code R195 does not give) (R141). -/
def readReply (n : NodeId) (kind : TxKind) : List Byte → Option (BusStatus × Int)
  | [a, k, st, hi, lo, c1, c2] =>
    if a = nodeAddress n ∧ k = kind.code ∧ crc16 [a, k, st, hi, lo] = c1 ++ c2 then
      (statusOfCode st).map fun x => (x, signedValue hi lo)
    else none
  | _ => none

/-- Role codes of an IDENT reply. -/
def roleOfCode (v : Int) : Option NodeRole :=
  if v = 1 then some .fan else if v = 2 then some .valve else if v = 3 then some .pump else if v = 4 then some .sensor else none

/-- A reported role by name, or its number where the code is none of the four (R195). -/
def reportedVal : Option Int → Val
  | none => .none
  | some v => match roleOfCode v with
    | some r => .word r.name
    | none => .int v

end Sys2Proof.Machine
end

