-- ==== Sys2Proof/Machine/Operands.lean ====
section
/-! DEFINITION. Operand forms: the check of a complete line (R185), the tokens of a request, the value forms of R186, and the checks of a
request's keys (R2, R128, R186). -/

namespace Sys2Proof.Machine

/-! ## Characters and complete lines (R183, R185) -/

/-- A character with a framing error is taken as one that is not printable (R183). -/
def HostChar.printable (c : HostChar) : Bool := !c.framing && 32 ≤ c.byte.toNat && c.byte.toNat ≤ 126

/-- Whether a received character is this control or mark character. -/
def HostChar.isChar (c : HostChar) (b : Byte) : Bool := !c.framing && c.byte = b

def HostChar.isHash (c : HostChar) : Bool := HostChar.isChar c 0x23#8
def HostChar.isCR (c : HostChar) : Bool := HostChar.isChar c 0x0D#8
def HostChar.isLF (c : HostChar) : Bool := HostChar.isChar c 0x0A#8

def HostChar.char (c : HostChar) : Char := Char.ofNat c.byte.toNat

/-- A hexadecimal digit's value, in either case. -/
def hexValue (c : Char) : Option Nat :=
  let n := c.toNat
  if 48 ≤ n ∧ n ≤ 57 then some (n - 48)
  else if 65 ≤ n ∧ n ≤ 70 then some (n - 55)
  else if 97 ≤ n ∧ n ≤ 102 then some (n - 87)
  else none

/-- The value of a received hexadecimal digit. -/
def HostChar.hex (c : HostChar) : Option Nat := if c.framing then none else hexValue (HostChar.char c)

/-- The content part of a line: the characters before the first `#`. -/
def lineContent (line : List HostChar) : List HostChar := line.takeWhile fun c => !HostChar.isHash c

/-- CHECK of R185: exactly one `#`, followed by exactly two hexadecimal digits equal to the CRC-8 of what stands before it. -/
def lineCheckOk (line : List HostChar) : Bool :=
  match line.drop (lineContent line).length with
  | [h, a, b] =>
    HostChar.isHash h &&
      (match HostChar.hex a, HostChar.hex b with
       | some x, some y => crc8 ((lineContent line).map HostChar.byte) = BitVec.ofNat 8 (16 * x + y)
       | _, _ => false)
  | _ => false

/-- SYNTAX of R185: printable throughout, `?` first, and a character that is not a space after it. -/
def lineSyntaxOk (content : List HostChar) : Bool :=
  content.all HostChar.printable &&
    (match content with
     | q :: rest => HostChar.isChar q 0x3F#8 && rest.any fun c => !HostChar.isChar c 0x20#8
     | [] => false)

/-- What is wrong with a complete line, if anything (R185). -/
def lineFault (line : List HostChar) : Option LineCause :=
  if !lineCheckOk line then some .check
  else if !lineSyntaxOk (lineContent line) then some .syn
  else none

/-! ## Tokens (R186) -/

/-- The parts of a text between separators; empty parts are kept. -/
def splitAt (sep : Char) : List Char → List (List Char)
  | [] => [[]]
  | c :: cs =>
    match splitAt sep cs with
    | [] => [[c]]
    | p :: ps => if c = sep then [] :: p :: ps else (c :: p) :: ps

/-- The tokens of a text, separated by single or multiple spaces. -/
def tokens (cs : List Char) : List (List Char) := (splitAt ' ' cs).filter fun t => !t.isEmpty

/-- A token as a pair: cut at its first `=`, or without one. -/
def argOfToken (t : List Char) : Arg :=
  let k := t.takeWhile fun c => c ≠ '='
  match t.drop k.length with
  | [] => { key := String.ofList k, val := none }
  | _ :: v => { key := String.ofList k, val := some (String.ofList v) }

/-- The name and the pairs of a request line's content. -/
def readRequest (content : List HostChar) : String × List Arg :=
  match tokens ((content.drop 1).map HostChar.char) with
  | [] => ("", [])
  | n :: ts => (String.ofList n, ts.map argOfToken)

/-! ## Values (R186) -/

def isDigit (c : Char) : Bool := 48 ≤ c.toNat && c.toNat ≤ 57
def isCapital (c : Char) : Bool := 65 ≤ c.toNat && c.toNat ≤ 90
def isSmall (c : Char) : Bool := 97 ≤ c.toNat && c.toNat ≤ 122

/-- Decimal digits, at least one, as a number. -/
def readDigits (cs : List Char) : Option Nat :=
  if cs.isEmpty || !cs.all isDigit then none else some (cs.foldl (fun n c => 10 * n + (c.toNat - 48)) 0)

/-- A number after an optional minus sign. -/
def signed (read : List Char → Option Nat) : List Char → Option Int
  | '-' :: cs => (read cs).map fun n => -(n : Int)
  | cs => (read cs).map fun n => (n : Int)

def readInt (v : String) : Option Int := signed readDigits v.toList

/-- Digits with optionally `.` and one digit, in tenths; without a decimal place, whole degrees. -/
def readTenths (cs : List Char) : Option Nat :=
  match splitAt '.' cs with
  | [w] => (readDigits w).map fun n => 10 * n
  | [w, f] =>
    match readDigits w, readDigits f, f with
    | some n, some d, [_] => some (10 * n + d)
    | _, _, _ => none
  | _ => none

def readTemp (v : String) : Option Temp := signed readTenths v.toList

/-- The member of a list that has this name. -/
def findName {α : Type} (xs : List α) (f : α → String) (v : String) : Option α := xs.find? fun a => f a = v

def readLoop : String → Option LoopId := findName allLoops loopName
def readCoil : String → Option CoilId := findName allCoils coilName
def readNode : String → Option NodeId := findName allNodes nodeName
def readChan : String → Option ChanId := findName allChans chanName
def readInputName : String → Option InputId := findName allInputs inputName

/-- node.point (R186). -/
def readPoint (v : String) : Option PointRef :=
  match splitAt '.' v.toList with
  | [n, p] =>
    match readNode (String.ofList n), readDigits p with
    | some k, some i => some ⟨k, i⟩
    | _, _ => none
  | _ => none

/-- A mask: x and four hexadecimal digits, either case; bit k stands for coil Ck (R127). -/
def readMask (v : String) : Option CoilSet :=
  match v.toList with
  | ['x', a, b, c, d] =>
    match hexValue a, hexValue b, hexValue c, hexValue d with
    | some w, some x, some y, some z => some (BitVec.ofNat 16 (4096 * w + 256 * x + 16 * y + z))
    | _, _, _, _ => none
  | _ => none

def readYesNo (v : String) : Option Bool := if v = "yes" then some true else if v = "no" then some false else none

/-- The names of a list; the word none is the empty list. -/
def readWords (v : String) : List String :=
  if v = "none" then [] else (splitAt ',' v.toList).map String.ofList

/-- A list of which every name is known. -/
def readList {α : Type} (read : String → Option α) (v : String) : Option (List α) := (readWords v).mapM read

/-- A value, or none for the word none. -/
def readOpt {α : Type} (read : String → Option α) (v : String) : Option (Option α) :=
  if v = "none" then some none else (read v).map some

/-! ## Forms (R186) -/

/-- The value forms of the table of R186. listOrNone is the one form R135 adds to them: a list in which the word none may stand for a
name, as loop= of COIL_MATCH takes it. -/
inductive Form where
  | int | temp | name | point | mask | list | listOrNone | none | yesNo | text
deriving DecidableEq, Repr

def isNameChar (c : Char) : Bool := isCapital c || isDigit c || c = '_'

def isName (cs : List Char) : Bool := !cs.isEmpty && cs.all isNameChar

def isTextChar (c : Char) : Bool := isCapital c || isSmall c || isDigit c || c = '-'

/-- Whether a value is written in a form. -/
def Form.accepts (f : Form) (v : String) : Bool :=
  match f with
  | .int => (readInt v).isSome
  | .temp => (readTemp v).isSome
  | .name => isName v.toList
  | .point =>
    match splitAt '.' v.toList with
    | [n, p] => isName n && (readDigits p).isSome
    | _ => false
  | .mask => (readMask v).isSome
  | .list => (splitAt ',' v.toList).all isName
  | .listOrNone => (splitAt ',' v.toList).all fun w => isName w || w = ['n', 'o', 'n', 'e']
  | .none => v = "none"
  | .yesNo => (readYesNo v).isSome
  | .text => !v.isEmpty && v.toList.all isTextChar

/-! ## Keys -/

/-- One key a request takes: its forms, the range of its value, and whether the request must name it. -/
structure KeySpec where
  key      : String
  forms    : List Form
  ok       : String → Bool
  required : Bool

def KeySpec.need (key : String) (forms : List Form) (ok : String → Bool) : KeySpec := ⟨key, forms, ok, true⟩
def KeySpec.may (key : String) (forms : List Form) (ok : String → Bool) : KeySpec := ⟨key, forms, ok, false⟩

def specOf (specs : List KeySpec) (k : String) : Option KeySpec := specs.find? fun x => x.key = k

/-- The value a request gives a key. -/
def argOf (args : List Arg) (k : String) : Option String := (args.find? fun a => a.key = k).bind fun a => a.val

def hasKey (args : List Arg) (k : String) : Bool := args.any fun a => a.key = k

/-- Integer range. -/
def intIn (lo hi : Int) (v : String) : Bool :=
  match readInt v with
  | some n => lo ≤ n && n ≤ hi
  | none => false

/-- Temperature range, in tenths. -/
def tempIn (lo hi : Temp) (v : String) : Bool :=
  match readTemp v with
  | some n => lo ≤ n && n ≤ hi
  | none => false

/-- The value is known to a reader. -/
def known {α : Type} (read : String → Option α) (v : String) : Bool := (read v).isSome

/-- Form of a request (R186): a pair without `=`, a key written twice, or a value not of its key's form; the first in the line.
seen holds the keys already met. -/
def formFault (specs : List KeySpec) (seen : List String) : List Arg → Option String
  | [] => none
  | a :: rest =>
    match a.val with
    | none => some a.key
    | some v =>
      if seen.contains a.key then some a.key
      else match specOf specs a.key with
        | some x => if x.forms.any fun f => f.accepts v then formFault specs (a.key :: seen) rest else some a.key
        | none => formFault specs (a.key :: seen) rest

/-- A key the request does not take, or a value out of range; the first in the line (R2, R188). -/
def rangeFault (specs : List KeySpec) (args : List Arg) : Option String :=
  (args.find? fun a =>
    match specOf specs a.key, a.val with
    | some x, some v => !x.ok v
    | _, _ => true).map fun a => a.key

/-- The first key, in the order of the rule, that the request must name and does not. -/
def missingKey (specs : List KeySpec) (args : List Arg) : Option String :=
  (specs.find? fun x => x.required && !hasKey args x.key).map fun x => x.key

/-- The check of form and range of most requests: form, then range in the order of the line, then missing keys. -/
def badArg (specs : List KeySpec) (args : List Arg) : Option String :=
  (formFault specs [] args).orElse fun _ => (rangeFault specs args).orElse fun _ => missingKey specs args

/-- The first key, in the order of the rule, that is missing or out of range. -/
def orderedFault (specs : List KeySpec) (args : List Arg) : Option String :=
  (specs.find? fun x =>
    match argOf args x.key with
    | some v => !x.ok v
    | none => x.required).map fun x => x.key

/-- The check where the rule orders its keys (R15, R21, R157, R180): form, then the keys in the rule's order, then unknown keys. -/
def badArgOrdered (specs : List KeySpec) (args : List Arg) : Option String :=
  (formFault specs [] args).orElse fun _ => (orderedFault specs args).orElse fun _ => rangeFault specs args

/-! ## Coil sets (R127, R128) -/

/-- The coils of a set, in order of coil number. -/
def coilsOf (m : CoilSet) : List CoilId := allCoils.filter fun c => m.getLsbD c.val

/-- The set of the coils that a test selects. -/
def maskWhere (p : CoilId → Bool) : CoilSet :=
  allCoils.foldl (fun m c => if p c then m ||| BitVec.ofNat 16 (2 ^ c.val) else m) 0#16

/-- The set holding the coils of a list. -/
def maskOf (cs : List CoilId) : CoilSet := maskWhere fun c => cs.contains c

/-- The coil set key of a group request (R127). -/
def coilsKey : KeySpec := .need "coils" [.mask] (known readMask)

/-- The check of a group request (R128): form, then the coil set, then the other keys in the order of the line, then missing keys. -/
def badArgGroup (specs : List KeySpec) (args : List Arg) : Option String :=
  let all := coilsKey :: specs
  (formFault all [] args).orElse fun _ => (orderedFault [coilsKey] args).orElse fun _ =>
    (rangeFault all args).orElse fun _ => missingKey specs args

def coilsArg (args : List Arg) : List CoilId := coilsOf (((argOf args "coils").bind readMask).getD 0#16)

/-! ## Selector keys -/

def loopKey : KeySpec := .need "loop" [.name] (known readLoop)
def loopArg (args : List Arg) : Option LoopId := (argOf args "loop").bind readLoop
def coilKey : KeySpec := .need "coil" [.name] (known readCoil)
def coilArg (args : List Arg) : Option CoilId := (argOf args "coil").bind readCoil

end Sys2Proof.Machine
end

