-- ==== Sys2Proof/Machine/Link.lean ====
section
/-! DEFINITION. Taking requests and placing replies (R187, R188): what a request answers, the answer place, the transmitter's list. -/

namespace Sys2Proof.Machine

/-- What a request is answered (R188): the status, its keys in the order of the owning rule, and the continuation lines of a
multi-line reply. -/
structure Reply where
  status : Status
  keys   : List Field
  lines  : Option (List (List Field))
deriving DecidableEq, Repr

def Reply.ok (keys : List Field) : Reply := ⟨.ok, keys, none⟩
def Reply.multi (keys : List Field) (lines : List (List Field)) : Reply := ⟨.ok, keys, some lines⟩
def Reply.badArg (key : String) : Reply := ⟨.badArg, [("key", .word key)], none⟩
def Reply.busy : Reply := ⟨.busy, [], none⟩
def Reply.unknown : Reply := ⟨.unknown, [], none⟩

/-- REFUSED with its reason and the keys the owning rule adds. -/
def Reply.refused (why : String) (more : List Field) : Reply := ⟨.refused, ("why", .word why) :: more, none⟩

/-- What the owning block makes of a request: it refuses it and changes nothing (R188: a reply carrying a status other than OK
leaves every block as it was), performs it with its reply, or accepts it with its reply deferred (R158). -/
inductive ReqResult where
  | refuse (r : Reply)
  | done (s : State) (r : Reply)
  | deferred (s : State)

/-- A request whose check found this key is BADARG; otherwise it goes on. -/
def checked (fault : Option String) (go : ReqResult) : ReqResult :=
  match fault with
  | some k => .refuse (.badArg k)
  | none => go

/-- A request refused for a state, or going on. -/
def refusedIf (bad : Bool) (r : Reply) (go : ReqResult) : ReqResult := if bad then .refuse r else go

/-- The request names an object, or is BADARG for its key. -/
def withSome {α : Type} (key : String) (x : Option α) (go : α → ReqResult) : ReqResult :=
  match x with
  | some a => go a
  | none => .refuse (.badArg key)

def Reply.placement (r : Reply) (name : String) : Placement := .reply name r.status r.keys r.lines

/-- Whether a placement is a reply to a request (an error line answers no request, R184). -/
def Placement.isReply : Placement → Bool
  | .reply _ _ _ _ => true
  | .err _ => false
  | .notice _ => false

/-- A reply of an earlier request is still being sent (R187). -/
def Link.replying (k : Link) : Bool := k.tx.any Placement.isReply

/-- A line is placed with the transmitter (R187). -/
def State.place (s : State) (p : Placement) : State := s.modLink fun k => { k with tx := k.tx ++ [p] }

/-- A line takes the answer place, or is discarded where the place is held (R187). -/
def State.toAnswerPlace (s : State) (p : Placement) : State :=
  s.modLink fun k => match k.answer with
    | none => { k with answer := some p }
    | some _ => k

/-- An error line is placed for sending, or takes the answer place while a reply is being sent (R184, R187). -/
def State.placeError (s : State) (cause : LineCause) : State :=
  if s.link.replying then s.toAnswerPlace (.err cause) else s.place (.err cause)

/-- Whether the deferred-reply slot holds a BUS_PASS (R187): it is the pass-through slot of R158. -/
def PassSlot.held : PassSlot → Bool
  | .empty => false
  | .waiting _ _ => true
  | .inFlight _ => true

/-- A request that passes R185 is taken by the link (R187): lost while an accepted RESET waits for its reply's end (R21), BUSY in
the answer place while a reply is being sent, BUSY while the slot is held, and otherwise performed with its reply placed. Where a reply is
being sent while the slot is held, the third case of R187 stands: the model's choice (assumption 47). -/
def takeRequest (name : String) (body : State → ReqResult) (s : State) : State :=
  if s.link.resetPending.isSome then s
  else if s.link.replying then s.toAnswerPlace (Reply.busy.placement name)
  else if s.bus.pass.held then s.place (Reply.busy.placement name)
  else match body s with
    | .refuse r => s.place (r.placement name)
    | .done s' r => s'.place (r.placement name)
    | .deferred s' => s'

end Sys2Proof.Machine
end

