-- ==== Sys2Proof/Machine/Respond.lean ====
section
/-! DEFINITION. How a command's effect becomes an outcome: a request taken by the link, or an event, each with the COMMAND_LOST reports it
causes given to their owners. -/

namespace Sys2Proof.Machine

/-- An event of the part or its surroundings: its effect, then the reports it causes (R153, R156). -/
def happen (s : State) : Host.Outcome State Fault Refusal := .next s.deliverLost

/-- A request arrives (R187), performed by its owning block if it is taken. -/
def request (name : String) (body : State → ReqResult) (s : State) : Host.Outcome State Fault Refusal :=
  happen (takeRequest name body s)

end Sys2Proof.Machine
end

