-- ==== Sys2Proof/Machine/Bus.lean ====
section
/-! DEFINITION. The roof bus master (chapter 7): points and their consumers, node states, outcomes, the poller, the arbiter. -/

namespace Sys2Proof.Machine

/-! ## Points and their consumers (R149, R150) -/

/-- Whether the poller reads a point of a node (R147). -/
def NodeRec.polls (r : NodeRec) (p : Nat) : Bool :=
  match r.role with
  | .none => false
  | .fan => p = 1 || p = 2
  | .valve => p = 1 || p = 2
  | .pump => p = 1
  | .sensor => p < r.channels

/-- Change one point of a node. -/
def State.modPoint (s : State) (n : NodeId) (p : Fin 4) (f : PointEntry → PointEntry) : State :=
  s.modNode n fun e => { e with points := e.points.set p (f e.points[p]) }

/-- The loops whose supply point this is. -/
def State.supplyLoops (s : State) (pt : PointRef) : List LoopId := allLoops.filter fun l => (s.cfg.loops[l]).supplyPt = some pt

/-- The loops whose flow value comes from this point. -/
def State.flowPtLoops (s : State) (pt : PointRef) : List LoopId :=
  allLoops.filter fun l => (s.cfg.loops[l]).flowSrc = some (.point pt)

/-- The pumps bound to a node. -/
def State.pumpsOf (s : State) (n : NodeId) : List (LoopId × PumpId) :=
  (allLoops.flatMap fun l => [(l, PumpId.a), (l, PumpId.b)]).filter fun x => (s.cfg.loops[x.1]).pumpNode x.2 = some n

/-- The arrival of a good read is given to each consumer of the point (R149). Where a point has several, their order is the model's choice
(assumption 39). -/
def State.pointArrived (s : State) (n : NodeId) (p : Nat) (v : Int) : State :=
  let pt : PointRef := ⟨n, p⟩
  let s1 := s.forEach (s.supplyLoops pt) fun l s => s.supplyArrived l v
  let s2 := s1.forEach (s1.flowPtLoops pt) fun l s => s.flowEvent l
  let s3 := s2.forEach allCoils fun c s => if (s.cfg.coils[c]).outletPt = some pt then s.outletArrived c v else s
  let s4 := s3.forEach allCoils fun c s => if (s.cfg.coils[c]).icingPt = some pt then s.icingArrived c v else s
  let s5 := if p = 1 then
      s4.forEach allCoils fun c s => if (s.cfg.coils[c]).valveNode = some n then s.valveArrived c v else s
    else s4
  let s6 := if p = 2 then s5.forEach allCoils fun c s => s.coilStatusArrived c n v else s5
  let s7 := if p = 1 then s6.forEach (s6.pumpsOf n) fun x s => s.pumpStatusArrived x.1 x.2 v else s6
  if s7.cfg.site.outdoorPt = some pt then s7.reselect else s7

/-- A GOOD READ of a polled point (R149): value, time, FRESH, then its consumers. -/
def State.goodRead (s : State) (n : NodeId) (p : Nat) (v : Int) : State :=
  if h : p < 4 then
    if (s.cfg.nodes[n]).polls p then
      (s.modPoint n ⟨p, h⟩ fun _ => { value := some v, readAt := some s.uptime, fresh := .fresh }).pointArrived n p v
    else s
  else s

/-- The cause the frost monitor records for a fall of freshness (R113). -/
def Freshness.frostCause : Freshness → FrostCause
  | .absent => .absent
  | .stale => .stale
  | .fresh => .stale

/-- A fall of a point's freshness is given to each consumer (R50, R91, R113, R150, R169), in an order of the model's choice (assumption
39). -/
def State.pointFell (s : State) (n : NodeId) (p : Nat) (f : Freshness) : State :=
  let pt : PointRef := ⟨n, p⟩
  let s1 := s.forEach (s.supplyLoops pt) fun l s => s.evalHold l
  let s2 := s1.forEach (s1.flowPtLoops pt) fun l s => s.flowEvent l
  let s3 := s2.forEach allCoils fun c s =>
    if (s.cfg.coils[c]).outletPt = some pt then s.outletLost c f.frostCause else s
  let s4 := if p = 1 then s3.forEach (s3.pumpsOf n) fun x s => s.pumpFreshness x.1 else s3
  if s4.cfg.site.outdoorPt = some pt then s4.reselect else s4

/-- A point becomes ABSENT, its value kept; a change is given to its consumers (R150). -/
def State.makeAbsent (s : State) (n : NodeId) (p : Fin 4) : State :=
  if (((s.nodes[n]).points)[p]).fresh = .absent then s
  else (s.modPoint n p fun e => { e with fresh := .absent }).pointFell n p.val .absent

/-- Every point of a node becomes ABSENT (R146, R150), point 0 first (assumption 39). -/
def State.allAbsent (s : State) (n : NodeId) : State := s.forEach (List.finRange 4) fun p s => s.makeAbsent n p

/-- A FRESH point's age has passed stale_limit (R150). -/
def State.tooOld (s : State) (n : NodeId) (p : Fin 4) : Bool :=
  let e := ((s.nodes[n]).points)[p]
  e.fresh = .fresh &&
    (match e.readAt with
     | some t => s.cfg.site.staleLimit < s.uptime - t
     | none => false)

/-- A point becomes STALE (R150). -/
def State.pointStale (s : State) (n : NodeId) (p : Fin 4) : State :=
  if s.tooOld n p then (s.modPoint n p fun e => { e with fresh := .stale }).pointFell n p.val .stale else s

/-! ## Node states (R143 to R146, R156) -/

/-- One discarded entry of a node that is gone (R156). -/
def State.discardEntry (s : State) (e : Entry) : State :=
  (s.modShadow e.node fun sh => { sh with state := .settled }).commandLost e.node (lostToNode e.value)

/-- The node's entries are discarded, URGENT first (R156). -/
def State.discardEntries (s : State) (n : NodeId) : State :=
  let gone := (s.bus.urgent ++ s.bus.routine).filter fun e => e.node = n
  (s.modBus fun b => { b with urgent := unqueue b.urgent n, routine := unqueue b.routine n }).forEach gone
    fun e s => s.discardEntry e

/-- Whether a change of node state is traced and raised (R146). -/
def nodeTraced (old new : NodeState) : Bool := (old = .offline) != (new = .offline) || new = .wrongRole

/-- The new state is given to the block that owns the node's output point (R146). -/
def State.nodeToOwner (s : State) (n : NodeId) (st : NodeState) : State :=
  match s.ownerOf n with
  | some (.coilFan c) => s.coilNodeChanged c n
  | some (.coilValve c) => s.coilNodeChanged c n
  | some (.pump l p) => s.pumpNodeChanged l p st
  | some (.bypass l) => if st = .online then s.resendBypass l else s
  | none => s

/-- Whether owners act on a change of node state: gone, or ONLINE after OFFLINE or after UNSEEN (R146). -/
def ownersAct (old new : NodeState) : Bool := new.isLost || (new = .online && (old = .offline || old = .unseen))

/-- A node's state changes, and the change is handed on in the order of R146. -/
def State.nodeChange (s : State) (n : NodeId) (new : NodeState) (miss : Nat) (o : BusOutcome) : State :=
  let old := (s.nodes[n]).state
  let s1 := s.modNode n fun e => { e with state := new, miss := miss }
  let s2 := if new.isLost then s1.allAbsent n else s1
  let s3 := if nodeTraced old new then
      (s2.event (.node n) .node [("old", .word old.name), ("new", .word new.name), ("outcome", .word o.name)]).raise .node
    else s2
  let s4 := if ownersAct old new then s3.nodeToOwner n new else s3
  if new.isLost then s4.discardEntries n else s4

/-- The node's state and miss count become these; a change of state is handed on. -/
def State.setNode (s : State) (n : NodeId) (new : NodeState) (miss : Nat) (o : BusOutcome) : State :=
  if (s.nodes[n]).state = new then s.modNode n fun e => { e with miss := miss } else s.nodeChange n new miss o

/-- Whether an outcome is a transaction unanswered or garbled (R144). -/
def BusOutcome.missed : BusOutcome → Bool
  | .timeout => true
  | .badFrame => true
  | _ => false

/-- Whether a node answered (R144). -/
def BusOutcome.answered : BusOutcome → Bool
  | .good => true
  | .refused => true
  | _ => false

/-- The table of R144 for READ and WRITE. -/
def State.nodeOutcome (s : State) (n : NodeId) (o : BusOutcome) : State :=
  let e := s.nodes[n]
  match e.state with
  | .online =>
    if o.answered then s.setNode n .online 0 o else if o.missed then s.setNode n .suspect 1 o else s
  | .suspect =>
    if o.answered then s.setNode n .online 0 o
    else if o.missed then (if 3 ≤ e.miss + 1 then s.setNode n .offline 3 o else s.setNode n .suspect (e.miss + 1) o)
    else s
  | _ => s

/-- Change the poller's own record. -/
def State.modPoller (s : State) (f : Poller → Poller) : State := s.modBus fun b => { b with poller := f b.poller }

/-- The poller's turn of a node is over where it stands in the midst of it: its position is past the node. -/
def State.endTurn (s : State) (n : NodeId) : State :=
  if s.bus.poller.node = n.val ∧ s.bus.poller.step ≠ 0 then s.modPoller fun q => { q with node := n.val + 1, step := 0 } else s

/-- A node becomes ONLINE by an IDENT (R145). It is read from its first point in the next round, so a turn that its loss has broken off is
not taken up again (R147); one whose turn has not come yet is read in this round, by its new state (assumption 53). -/
def State.identified (s : State) (n : NodeId) (o : BusOutcome) : State := (s.endTurn n).setNode n .online 0 o

/-- The recorded role is the one reported (R145). -/
def roleMatches (r : NodeRole) (code : Int) : Bool := roleOfCode code = some r

/-- The outcome of an IDENT (R145); v is the reply's value. To an ONLINE or SUSPECT node it is a READ under R144, whose GOOD sets the miss
count 0, also where the node becomes WRONG_ROLE. An OFFLINE node that becomes WRONG_ROLE keeps its miss count, which R145 does not give
(assumption 22). -/
def State.identOutcome (s : State) (n : NodeId) (o : BusOutcome) (v : Int) : State :=
  let e := s.nodes[n]
  let ok := roleMatches (s.cfg.nodes[n]).role v
  let s1 := if o = .good then s.modNode n fun x => { x with reported := some v } else s
  match e.state with
  | .unseen =>
    if o = .good then (if ok then s1.identified n o else s1.setNode n .wrongRole e.miss o)
    else if o = .lineError then s1 else s1.setNode n .unseen 0 o
  | .offline =>
    if o = .good then (if ok then s1.identified n o else s1.setNode n .wrongRole e.miss o)
    else if o = .lineError then s1 else s1.setNode n .offline 3 o
  | .wrongRole => s1
  | .online => if o = .good ∧ !ok then s1.setNode n .wrongRole 0 o else s1.nodeOutcome n o
  | .suspect => if o = .good ∧ !ok then s1.setNode n .wrongRole 0 o else s1.nodeOutcome n o

/-! ## Outcomes (R141, R144, R151, R155, R158) -/

/-- A transaction's result: its outcome, and the status and value its reply carried. -/
structure Result where
  outcome : BusOutcome
  status  : Option BusStatus
  value   : Option Int
deriving DecidableEq, Repr

/-- The bus becomes DOWN at a third LINE_ERROR in a row; any other outcome clears the count (R151). -/
def State.countLineError (s : State) (o : BusOutcome) : State :=
  if o = .lineError then
    let n := s.bus.lineErrors + 1
    if 3 ≤ n then
      ((s.modBus fun b => { b with lineErrors := 3, line := .down Config.downSeconds }).event .bus .bus
        [("state", .word "DOWN")]).raise .bus
    else s.modBus fun b => { b with lineErrors := n }
  else s.modBus fun b => { b with lineErrors := 0 }

/-- Last outcome and status of the entry, and last heard where the node answered and has a role (R143, R144). -/
def State.recordOutcome (s : State) (n : NodeId) (r : Result) : State :=
  let s1 := s.modNode n fun e => { e with lastOutcome := some r.outcome, lastStatus := r.status }
  if r.outcome.answered ∧ (s.cfg.nodes[n]).role ≠ .none then s1.modNode n fun e => { e with lastHeard := some s.uptime } else s1

/-- A failed command with no newer value behind it joins the tail of its queue again (R155). -/
def State.requeue (s : State) (n : NodeId) (v : Int) (u : Urgency) (refusals : Nat) : State :=
  (s.modShadow n fun sh => { sh with state := .queued }).modBus fun b => b.enqueue u ⟨n, v, refusals⟩

/-- The outcome of a granted command acts on its shadow and its entry (R155, R161). A failed value with a newer one behind it is dropped
here, also where the failure takes the node OFFLINE: only the newer entry is then discarded with COMMAND_LOST (R146, R156), which is the
model's reading (assumption 19). -/
def State.commandOutcome (s : State) (n : NodeId) (v : Int) (u : Urgency) (refusals : Nat) (lapsed : Bool) (o : BusOutcome) :
    State :=
  let newer := s.bus.queued n
  if o = .good then
    s.modShadow n fun sh => { sh with sent := some v, state := if newer then .queued else .settled }
  else if newer then s.modShadow n fun sh => { sh with state := .queued }
  else if lapsed then s.modShadow n fun sh => { sh with state := .settled }
  else if o = .refused then
    if 3 ≤ refusals + 1 then (s.modShadow n fun sh => { sh with state := .settled }).commandLost n lostToRefusal
    else s.requeue n v u (refusals + 1)
  else s.requeue n v u 0

/-- The outcome acts on the node table, where the node has a role (R143 to R145). -/
def State.tableOutcome (s : State) (f : Flight) (r : Result) : State :=
  if (s.cfg.nodes[f.node]).role = .none then s
  else match f.kind with
    | .ident => s.identOutcome f.node r.outcome (r.value.getD 0)
    | .read => s.nodeOutcome f.node r.outcome
    | .write => s.nodeOutcome f.node r.outcome

/-- A GOOD READ is delivered (R149, R158). -/
def State.deliverRead (s : State) (f : Flight) (r : Result) : State :=
  match f.kind, r.outcome, r.value with
  | .read, .good, some v => s.goodRead f.node f.point v
  | _, _, _ => s

/-! ## The poller (R147, R148) -/

/-- The transaction of a node at a step of its turn in the round, by its state and role as they stand (R147). An IDENT is the first step of a
turn or none: a node that enters OFFLINE in the midst of its turn of round 0, or becomes UNSEEN in the midst of a turn, gets no IDENT in that
round, the model's choice (assumption 53). -/
def pollAt (round : Nat) (r : NodeRec) (st : NodeState) (step : Nat) : Option (TxKind × Nat) :=
  match r.role, st with
  | .none, _ => none
  | _, .unseen => if step = 0 then some (.ident, 0) else none
  | _, .offline => if step = 0 ∧ round = 0 then some (.ident, 0) else none
  | _, .wrongRole => none
  | .fan, _ => if step < 2 then some (.read, step + 1) else none
  | .valve, _ => if step < 2 then some (.read, step + 1) else none
  | .pump, _ => if step = 0 then some (.read, 1) else none
  | .sensor, _ => if step < r.channels then some (.read, step) else none

/-- The poller's next transaction from its position: node, step, kind and point, worked out from the node table (R147). -/
def State.nextPoll (s : State) : Option (NodeId × Nat × TxKind × Nat) :=
  let q := s.bus.poller
  (allNodes.filter fun n => q.node ≤ n.val).findSome? fun n =>
    let step := if n.val = q.node then q.step else 0
    (pollAt q.round (s.cfg.nodes[n]) (s.nodes[n]).state step).map fun x => (n, step, x.1, x.2)

/-- The round after this one: 0 to 7, then 0 again (R147). -/
def nextRound (r : Nat) : Nat := (r + 1) % 8

/-- A round that has no transaction to make ends as it begins; the next begins after the spacing, or 1 s for a spacing of 0 (R148). R148 says
so where every node is NONE or WRONG_ROLE; that it is so too where the nodes with nothing to ask are OFFLINE, in a round of another number
than 0, is the model's choice (assumption 24). -/
def State.emptyRound (s : State) : State :=
  s.modPoller fun q =>
    { round := nextRound q.round, phase := .spacing (max 1 s.cfg.site.roundSpacing), node := 0, step := 0 }

/-- A round begins (R148). -/
def State.beginRound (s : State) : State :=
  let s1 := s.modPoller fun q => { q with phase := .waiting, node := 0, step := 0 }
  if s1.nextPoll.isNone then s1.emptyRound else s1

/-- A round ends: the number advances and the spacing starts; a spacing of 0 begins the next round at once (R148). -/
def State.endRound (s : State) : State :=
  let s1 := s.modPoller fun q =>
    { round := nextRound q.round, phase := .spacing s.cfg.site.roundSpacing, node := 0, step := 0 }
  if s.cfg.site.roundSpacing = 0 then s1.beginRound else s1

/-- After the outcome of a poll transaction the poller moves to its next position, and the round ends after its last (R148). -/
def State.movePoller (s : State) (f : Flight) : State :=
  match f.src with
  | .poller =>
    let s1 := s.modPoller fun q => match f.kind with
      | .ident => { q with node := q.node + 1, step := 0 }
      | .read => { q with step := q.step + 1 }
      | .write => q
    if s1.nextPoll.isNone then s1.endRound else s1
  | _ => s

/-! ## The pass-through reply (R158) -/

/-- The deferred OK reply of a BUS_PASS (R158). An IDENT whose outcome is not GOOD has no role to report (assumption 23). -/
def passReply (kind : TxKind) (r : Result) : Reply :=
  .ok ([("outcome", .word r.outcome.name),
        ("status", match r.status with
          | some st => .word st.name
          | none => .unknown),
        ("value", optIntU r.value)] ++
    (if kind = .ident then [("role", reportedVal (if r.outcome = .good then r.value else none))] else []))

/-- A pass-through transaction's end gives its deferred reply, where the slot still holds it (R158). -/
def State.answerPass (s : State) (f : Flight) (r : Result) : State :=
  match f.src, s.bus.pass with
  | .pass, .inFlight _ =>
    (s.modBus fun b => { b with pass := .empty }).place ((passReply f.kind r).placement "BUS_PASS")
  | _, _ => s

/-- A granted command's entry and shadow (R155). -/
def State.settleCommand (s : State) (f : Flight) (o : BusOutcome) : State :=
  match f.src with
  | .command u k lapsed => s.commandOutcome f.node f.value u k lapsed o
  | _ => s

/-- A transaction ends with its outcome (R141). -/
def State.finish (s : State) (f : Flight) (r : Result) : State :=
  let s1 := (s.modBus fun b => { b with flight := none, rx := [] }).countLineError r.outcome
  let s2 := (s1.recordOutcome f.node r).settleCommand f r.outcome
  (((s2.tableOutcome f r).deliverRead f r).movePoller f).answerPass f r

/-- A transaction that ended with no reply. -/
def State.finishBare (s : State) (o : BusOutcome) : State :=
  match s.bus.flight with
  | some f => s.finish f ⟨o, none, none⟩
  | none => s

/-- The result of a complete reply (R141). -/
def replyResult (f : Flight) (bytes : List Byte) : Result :=
  match readReply f.node f.kind bytes with
  | some (.refuse, v) => ⟨.refused, some .refuse, some v⟩
  | some (st, v) => ⟨.good, some st, some v⟩
  | none => ⟨.badFrame, none, none⟩

/-- Bytes of a reply arrive: discarded with no transaction awaiting one; the first seven without a gap are a complete reply (R141). -/
def State.replyBytes (s : State) (bytes : List Byte) : State :=
  match s.bus.flight with
  | none => s
  | some f =>
    let rx := s.bus.rx ++ bytes
    if 7 ≤ rx.length then s.finish f (replyResult f (rx.take 7)) else s.modBus fun b => { b with rx := rx }

/-! ## The arbiter (R154) -/

/-- Whether a queued entry may be granted: its node is ONLINE or SUSPECT (R154). -/
def State.grantable (s : State) (e : Entry) : Bool := (s.nodes[e.node]).state = .online || (s.nodes[e.node]).state = .suspect

/-- The count of grants in a row that were not to the poller (R154). -/
def raiseShare (k : Nat) : Nat := min Config.shareMax (k + 1)

/-- A granted entry leaves its queue; its transaction is a WRITE of its value (R154). -/
def State.grantCommand (s : State) (u : Urgency) (e : Entry) : State :=
  (s.modShadow e.node fun sh => { sh with state := .inFlight }).modBus fun b =>
    { b with urgent := unqueue b.urgent e.node, routine := unqueue b.routine e.node, share := raiseShare b.share, rx := [],
             flight := some { src := .command u e.refusals false, kind := .write, node := e.node, point := 0, value := e.value,
                              window := s.cfg.site.replyWindow } }

/-- The pass-through slot is granted, whatever the state of the node (R158). -/
def State.grantPass (s : State) (r : PassReq) : State :=
  s.modBus fun b =>
    { b with pass := .inFlight r, share := raiseShare b.share, rx := [],
             flight := some { src := .pass, kind := r.kind, node := r.node, point := r.point, value := r.value,
                              window := s.cfg.site.replyWindow } }

/-- The poller is granted its next transaction (R147). -/
def State.grantPoller (s : State) (n : NodeId) (step : Nat) (kind : TxKind) (point : Nat) : State :=
  s.modBus fun b =>
    { b with poller := { b.poller with node := n.val, step := step }, share := 0, rx := [],
             flight := some { src := .poller, kind := kind, node := n, point := point, value := 0,
                              window := s.cfg.site.replyWindow } }

/-- The poller's transaction, where it is waiting for the line. -/
def State.pollWaiting (s : State) : Option (NodeId × Nat × TxKind × Nat) :=
  match s.bus.poller.phase with
  | .waiting => s.nextPoll
  | .spacing _ => none

/-- A poller that waits with nothing left to ask ends its round (R148). Where what was left to ask has gone without a poll's outcome, the
round ends when the line is next granted (assumption 24). -/
def State.tidyRound (s : State) : State :=
  match s.bus.poller.phase with
  | .spacing _ => s
  | .waiting =>
    if s.nextPoll.isSome then s
    else if s.bus.poller.node = 0 ∧ s.bus.poller.step = 0 then s.emptyRound
    else s.endRound

/-- The arbiter's choice (R154). -/
def State.arbitrate (s : State) : State :=
  let poll := s.pollWaiting
  match (if s.bus.share = Config.shareMax then poll else none) with
  | some (n, k, kind, p) => s.grantPoller n k kind p
  | none =>
    match s.bus.urgent.find? fun e => s.grantable e with
    | some e => s.grantCommand .urgent e
    | none =>
      match s.bus.routine.find? fun e => s.grantable e with
      | some e => s.grantCommand .routine e
      | none =>
        match s.bus.pass, poll with
        | .waiting r _, _ => s.grantPass r
        | _, some (n, k, kind, p) => s.grantPoller n k kind p
        | _, none => s

/-- BUS_GRANT (R154): only while the bus is UP and no transaction is in flight. -/
def State.grant (s : State) : State :=
  match s.bus.line, s.bus.flight with
  | .up, none => s.tidyRound.arbitrate
  | _, _ => s

/-- The frame the part sends for a transaction (R195). -/
def Flight.frame (f : Flight) : List Byte := requestFrame f.kind f.node f.point f.value

/-! ## Leaving RUN, and node records (R4, R13, R161) -/

/-- The flight's owner, if it is a command, loses its claim (R13). -/
def Flight.lapse (f : Flight) : Flight :=
  match f.src with
  | .command u k _ => { f with src := .command u k true }
  | _ => f

/-- Every owner's entry is removed without COMMAND_LOST, and each shadow so emptied is SETTLED (R13, R161). -/
def State.dropOwnerEntries (s : State) : State :=
  let s1 := s.forEach (s.bus.urgent ++ s.bus.routine) fun e s =>
    s.modShadow e.node fun sh => { sh with state := if sh.state = .queued then .settled else sh.state }
  s1.modBus fun b => { b with urgent := [], routine := [], flight := b.flight.map Flight.lapse }

/-- A changed node record returns the node as an unseen node (R4, R161). -/
def State.forgetNode (s : State) (n : NodeId) : State :=
  ((s.modNode n fun e => { e with state := .unseen, miss := 0 }).allAbsent n).modShadow n fun _ => .blank

/-! ## Commands -/

def execBusGrant (s : State) : Host.Outcome State Fault Refusal := happen s.grant

/-- REPLY_FRAME (R141). -/
def execReplyFrame (bytes : List Byte) (s : State) : Host.Outcome State Fault Refusal := happen (s.replyBytes bytes)

/-- REPLY_WINDOW_EXPIRY (R141). -/
def execReplyWindowExpiry (s : State) : Host.Outcome State Fault Refusal := happen (s.finishBare .timeout)

/-- ECHO_MISMATCH (R141). -/
def execEchoMismatch (s : State) : Host.Outcome State Fault Refusal := happen (s.finishBare .lineError)

/-- REPLY_BYTE_GAP (R141). -/
def execReplyByteGap (s : State) : Host.Outcome State Fault Refusal := happen (s.modBus fun b => { b with rx := [] })

/-- BUS_DOWN_EXPIRY (R151). -/
def execBusDownExpiry (s : State) : Host.Outcome State Fault Refusal :=
  happen (match s.bus.line with
    | .down _ =>
      ((s.modBus fun b => { b with line := .up, lineErrors := 0 }).event .bus .bus [("state", .word "UP")]).raise .bus
    | .up => s)

/-- ROUND_START (R148). -/
def execRoundStart (s : State) : Host.Outcome State Fault Refusal :=
  happen (match s.bus.poller.phase with
    | .spacing _ => s.beginRound
    | .waiting => s)

/-- POINT_STALE (R150). -/
def execPointStale (n : NodeId) (p : Fin 4) (s : State) : Host.Outcome State Fault Refusal := happen (s.pointStale n p)

/-- PASS_WAIT_TIMEOUT (R158). -/
def execPassWaitTimeout (s : State) : Host.Outcome State Fault Refusal :=
  happen (match s.bus.pass with
    | .waiting _ _ =>
      (s.modBus fun b => { b with pass := .empty }).place (.reply "BUS_PASS" .timeout [] none)
    | _ => s)

end Sys2Proof.Machine
end

