-- ==== Sys2Proof/Machine/BusRequests.lean ====
section
/-! DEFINITION. The requests of the roof bus (R157 to R160): BUS_PASS, NODE_STATE, BUS_STATE. -/

namespace Sys2Proof.Machine

/-! ## BUS_PASS (R157) -/

def readKind : String → Option TxKind := findName [.read, .write, .ident] TxKind.name

/-- The keys of BUS_PASS for a kind, in the order of the check (R157). -/
def passKeys (kind : Option TxKind) : List KeySpec :=
  let node := KeySpec.need "node" [.name] (known readNode)
  let kindKey := KeySpec.need "kind" [.name] (known readKind)
  match kind with
  | some .write =>
    [node, kindKey, .need "point" [.int] (intIn 0 255), .need "value" [.int] (intIn (-32768) 32767)]
  | some .ident => [node, kindKey, .may "point" [.int] (intIn 0 0), .may "value" [.int] fun _ => false]
  | some .read => [node, kindKey, .need "point" [.int] (intIn 0 255), .may "value" [.int] fun _ => false]
  | none => [node, kindKey, .may "point" [.int] (intIn 0 255), .may "value" [.int] (intIn (-32768) 32767)]

/-- A coil's owner is inactive while the coil is OUT or its loop is IDLE (R157). -/
def State.coilActive (s : State) (c : CoilId) : Bool :=
  (s.coils[c]).service ≠ .out &&
    (match s.coilLoop c with
     | some l => (s.loops[l]).state ≠ .idle
     | none => false)

/-- Whether an owner of an output point is active in RUN (R157). -/
def State.ownerActive (s : State) : Owner → Bool
  | .coilFan c => s.coilActive c
  | .coilValve c => s.coilActive c
  | .pump l _ => (s.loops[l]).state ≠ .idle
  | .bypass l => (s.loops[l]).state ≠ .idle

/-- A WRITE in RUN to an output point whose owner is active (R157). -/
def State.passOwned (s : State) (r : PassReq) : Bool :=
  s.mode = .run && r.kind = .write && r.point = 0 &&
    (match s.ownerOf r.node with
     | some o => s.ownerActive o
     | none => false)

/-- BUS_PASS (R157, R158): form, ownership, then the slot is WAITING with 2 s, its reply deferred. -/
def reqBusPass (args : List Arg) (s : State) : ReqResult :=
  checked (badArgOrdered (passKeys ((argOf args "kind").bind readKind)) args) <|
  withSome "node" ((argOf args "node").bind readNode) fun n =>
  withSome "kind" ((argOf args "kind").bind readKind) fun kind =>
  let r : PassReq :=
    { kind := kind, node := n, point := (((argOf args "point").bind readInt).getD 0).toNat,
      value := ((argOf args "value").bind readInt).getD 0 }
  refusedIf (s.passOwned r) (.refused "OWNED" []) <|
  .deferred (s.modBus fun b => { b with pass := .waiting r Config.passWaitSeconds })

/-! ## NODE_STATE (R159) -/

/-- An outcome, or none before the first. -/
def outcomeVal : Option BusOutcome → Val := optWord BusOutcome.name

/-- A node's status as last answered, or none. -/
def statusVal : Option BusStatus → Val := optWord BusStatus.name

/-- The polled points of a node record. -/
def polledPoints (r : NodeRec) : List (Fin 4) := (List.finRange 4).filter fun p => r.polls p.val

/-- The line of one polled point (R159); its keys are the model's (assumption 41), and so is its value, written as the number the master
holds whatever the point is (assumption 48). -/
def State.pointLine (s : State) (n : NodeId) (p : Fin 4) : List Field :=
  let e := ((s.nodes[n]).points)[p]
  [("point", .word (pointName n p.val)), ("value", optIntU e.value), ("fresh", .word e.fresh.name), ("read", optNat e.readAt)]

/-- An owner by the coil or loop it is (R159). -/
def Owner.name : Owner → String
  | .coilFan c => coilName c
  | .coilValve c => coilName c
  | .pump l _ => loopName l
  | .bypass l => loopName l

/-- The queue and the entry of a node's queued command (R152). -/
def Bus.entryOf (b : Bus) (n : NodeId) : Option (Urgency × Entry) :=
  match b.urgent.find? fun e => e.node = n with
  | some e => some (.urgent, e)
  | none => (b.routine.find? fun e => e.node = n).map fun e => (.routine, e)

/-- The refusals a shadow reports: those of its queued entry, else of the command on the line (R152). -/
def Bus.refusalsOf (b : Bus) (n : NodeId) : Nat :=
  match b.entryOf n, b.flight with
  | some x, _ => x.2.refusals
  | none, some f =>
    (match f.src with
     | .command _ k _ => if f.node = n then k else 0
     | _ => 0)
  | none, none => 0

/-- The line of the output point, where the node is bound as an output node (R159); its keys are the model's (assumption 41). -/
def State.outputLine (s : State) (n : NodeId) : List (List Field) :=
  match s.ownerOf n with
  | none => []
  | some o =>
    let sh := (s.nodes[n]).shadow
    let urgency : List Field :=
      match sh.state, s.bus.entryOf n with
      | .queued, some x => [("urgency", .word x.1.name)]
      | _, _ => []
    [[("point", .word (pointName n 0)), ("owner", .word o.name), ("desired", optWord intText sh.desired),
      ("sent", optWord intText sh.sent), ("state", .word sh.state.name)] ++ urgency ++
      [("refusals", .int (s.bus.refusalsOf n))]]

/-- The reply for one node (R159); its keys are the model's (assumption 41). -/
def State.oneNode (s : State) (n : NodeId) : Reply :=
  let r := s.cfg.nodes[n]
  let e := s.nodes[n]
  .multi
    [("node", .word (nodeName n)), ("role", .word r.role.name), ("channels", .int r.channels), ("state", .word e.state.name),
     ("miss", .int e.miss), ("reported", reportedVal e.reported), ("outcome", outcomeVal e.lastOutcome),
     ("status", statusVal e.lastStatus), ("heard", optNat e.lastHeard)]
    ((polledPoints r).map (s.pointLine n) ++ s.outputLine n)

/-- The reply for every node whose role is not NONE (R159); its keys are the model's (assumption 41). -/
def State.everyNode (s : State) : Reply :=
  let ns := allNodes.filter fun n => (s.cfg.nodes[n]).role ≠ .none
  .multi [("count", .int ns.length)]
    (ns.map fun n =>
      [("node", .word (nodeName n)), ("role", .word (s.cfg.nodes[n]).role.name), ("state", .word (s.nodes[n]).state.name),
       ("miss", .int (s.nodes[n]).miss), ("outcome", outcomeVal (s.nodes[n]).lastOutcome)])

/-- NODE_STATE (R159). -/
def reqNodeState (args : List Arg) (s : State) : ReqResult :=
  checked (badArg [.may "node" [.name] (known readNode)] args) <|
  match (argOf args "node").bind readNode with
  | some n => .done s (s.oneNode n)
  | none => .done s s.everyNode

/-! ## BUS_STATE (R160) -/

def lineVal : LineState → Val
  | .up => .word "UP"
  | .down k => .words ["DOWN", toString k]

def passVal : PassSlot → Val
  | .empty => .word "EMPTY"
  | .waiting _ k => .words ["WAITING", toString k]
  | .inFlight _ => .word "IN_FLIGHT"

def Requester.name : Requester → String
  | .command u _ _ => u.name
  | .pass => "PASS"
  | .poller => "POLLER"

def flightVal : Option Flight → Val
  | none => .none
  | some f => .words [f.src.name, f.kind.name, pointName f.node f.point]

/-- The round number, and the next node and point, or SPACING with the seconds left (R160); the word NONE of a poller that waits with nothing
left to ask in its round is the model's (assumption 50). -/
def State.pollerVal (s : State) : Val :=
  let q := s.bus.poller
  match q.phase, s.nextPoll with
  | .spacing k, _ => .words [toString q.round, "SPACING", toString k]
  | .waiting, some (n, _, _, p) => .words [toString q.round, pointName n p]
  | .waiting, none => .words [toString q.round, "NONE"]

/-- The line of one queued entry (R160); its keys but waiting= are the model's (assumption 41). -/
def State.entryLine (s : State) (u : Urgency) (e : Entry) : List Field :=
  [("queue", .word u.name), ("point", .word (pointName e.node 0)), ("owner", optWord Owner.name (s.ownerOf e.node)),
   ("value", .int e.value), ("refusals", .int e.refusals)] ++
    (if (s.nodes[e.node]).state = .unseen then [("waiting", .word "UNSEEN")] else [])

/-- BUS_STATE (R160). window= is the site record's reply_window, also while a transaction granted with an older one is on the line: the
model's choice (assumption 50). -/
def reqBusState (args : List Arg) (s : State) : ReqResult :=
  checked (badArg [] args) <|
  .done s (.multi
    [("bus", lineVal s.bus.line), ("line_errors", .int s.bus.lineErrors), ("rate", .int s.bus.rate),
     ("window", .int s.cfg.site.replyWindow), ("urgent", .int s.bus.urgent.length), ("routine", .int s.bus.routine.length),
     ("pass", passVal s.bus.pass), ("flight", flightVal s.bus.flight), ("poller", s.pollerVal), ("share", .int s.bus.share)]
    (s.bus.urgent.map (s.entryLine .urgent) ++ s.bus.routine.map (s.entryLine .routine)))

/-! ## Commands -/

/-- A request with its fixed pair written first. -/
def withPair (k v : String) (args : List Arg) : List Arg := ⟨k, some v⟩ :: args

def execBusPassRead (args : List Arg) (s : State) : Host.Outcome State Fault Refusal :=
  request "BUS_PASS" (reqBusPass (withPair "kind" "READ" args)) s
def execBusPassWrite (args : List Arg) (s : State) : Host.Outcome State Fault Refusal :=
  request "BUS_PASS" (reqBusPass (withPair "kind" "WRITE" args)) s
def execBusPassIdent (args : List Arg) (s : State) : Host.Outcome State Fault Refusal :=
  request "BUS_PASS" (reqBusPass (withPair "kind" "IDENT" args)) s
def execNodeState (args : List Arg) (s : State) : Host.Outcome State Fault Refusal := request "NODE_STATE" (reqNodeState args) s
def execBusState (args : List Arg) (s : State) : Host.Outcome State Fault Refusal := request "BUS_STATE" (reqBusState args) s

end Sys2Proof.Machine
end

