-- ==== Sys2Proof/Machine/Clock.lean ====
section
/-! DEFINITION. One second of uptime (R30 and the timers of every chapter). -/

namespace Sys2Proof.Machine

/-- Plan time runs in ACTIVE, HOLDING and STOPPED (R30). -/
def PlanState.runs : PlanState → Bool
  | .active => true
  | .holding => true
  | .stopped => true
  | .empty => false
  | .paused => false

def Plan.second (run : Bool) (p : Plan) : Plan := if run && p.state.runs then { p with elapsed := p.elapsed + 1 } else p

def LoopSt.second (x : LoopSt) : LoopSt :=
  { x with holdoff := x.holdoff.tick, proof := x.proof.tick, lowflow := x.lowflow.tick, tick := x.tick.tick }

def LoopCoils.second (u : LoopCoils) : LoopCoils := { u with rotation := u.rotation.tick }

def CoilSt.second (x : CoilSt) : CoilSt :=
  { x with stroke := x.stroke.tick, dwell := x.dwell.tick, admission := x.admission.tick, skip := x.skip.tick,
           rundown := x.rundown.tick, kwTimer := x.kwTimer.tick, kwDwell := x.kwDwell.tick, shed := x.shed.tick,
           cooldown := x.cooldown.tick }

def LineState.second : LineState → LineState
  | .up => .up
  | .down n => .down (n - 1)

def PassSlot.second : PassSlot → PassSlot
  | .waiting r n => .waiting r (n - 1)
  | p => p

def PollPhase.second : PollPhase → PollPhase
  | .spacing n => .spacing (n - 1)
  | .waiting => .waiting

def Bus.second (b : Bus) : Bus :=
  { b with line := b.line.second, pass := b.pass.second, poller := { b.poller with phase := b.poller.phase.second } }

/-- The part's clock advances by one second, with plan time and every timer of whole seconds. -/
def State.second (s : State) : State :=
  { s with uptime := s.uptime + 1, plans := s.plans.map (Plan.second (s.mode = .run)), loops := s.loops.map LoopSt.second,
           units := s.units.map LoopCoils.second, coils := s.coils.map CoilSt.second, bus := s.bus.second }

/-- UPTIME_SECOND (R30). -/
def execUptimeSecond (s : State) : Host.Outcome State Fault Refusal := happen s.second

end Sys2Proof.Machine
end

