-- ==== Sys2Proof/Machine/LoopRequests.lean ====
section
/-! DEFINITION. The requests and expiries of the loop regulator (R52 to R62, R69, R76). -/

namespace Sys2Proof.Machine

/-! ## PUMP_SWAP, PUMP_CLEAR (R57, R61) -/

/-- PUMP_SWAP (R57). -/
def reqPumpSwap (args : List Arg) (s : State) : ReqResult :=
  checked (badArg [loopKey] args) <|
  withSome "loop" (loopArg args) fun l =>
  let x := s.loops[l]
  refusedIf (x.state ≠ .running || (x.pump x.standby).faulted) (.refused "STATE" []) <|
  .done (s.enterFailoverPlanned l) (.ok [("state", .word "FAILOVER"), ("reason", .word "PLANNED")])

def readPump : String → Option PumpId := findName [.a, .b] PumpId.name

/-- PUMP_CLEAR (R61). -/
def reqPumpClear (args : List Arg) (s : State) : ReqResult :=
  checked (badArg [loopKey, .need "pump" [.name] (known readPump)] args) <|
  withSome "loop" (loopArg args) fun l =>
  withSome "pump" ((argOf args "pump").bind readPump) fun p =>
  .done (s.soundPump l p "CLEAR") (.ok [])

/-! ## LOOP_STATE (R76) -/

/-- A pump status reading by name, as its number where R195 gives none (the model's choice, assumption 52), or NONE. -/
def pumpStatusName : Option Int → String
  | none => "NONE"
  | some v => if v = 0 then "READY" else if v = codeRunning then "RUNNING" else if v = codeFault then "FAULT" else intText v

/-- A pump's health, desired run and status reading. -/
def State.pumpVal (s : State) (l : LoopId) (p : PumpId) : Val :=
  let q := (s.loops[l]).pump p
  .words [healthName q.faulted, runName q.run, pumpStatusName (s.pumpStatus l p)]

/-- The set flags of a loop. -/
def LoopSt.flags (x : LoopSt) : List String :=
  (if x.blind then ["BLIND"] else []) ++ (if x.cold then ["COLD"] else []) ++ (if x.satWarm then ["SAT_WARM"] else []) ++
    (if x.satCold then ["SAT_COLD"] else [])

/-- The holdoff as LOOP_STATE gives it: 0 when elapsed, none in IDLE. -/
def LoopSt.holdoffVal (x : LoopSt) : Val :=
  if x.state = .idle then .none else .int (x.holdoff.left.getD 0)

/-- LOOP_STATE (R76): one line, written whole, though what R76 lists can pass the 200 characters of R194 (assumption 40). -/
def reqLoopState (args : List Arg) (s : State) : ReqResult :=
  checked (badArg [loopKey] args) <|
  withSome "loop" (loopArg args) fun l =>
  let x := s.loops[l]
  let e := s.effective l
  .done s (.ok
    [("state", .word x.state.name), ("reason", optWord FailReason.name x.reason), ("duty", .word x.duty.name),
     ("a", s.pumpVal l .a), ("b", s.pumpVal l .b), ("proof", optNat x.proof.left), ("lowflow", optNat x.lowflow.left),
     ("fan_step", .int x.fanStep), ("fan", .int (s.fanDemandPct l)), ("bypass", .int x.bypass), ("flags", listVal x.flags),
     ("blind", .int x.blindCount), ("holdoff", x.holdoffVal), ("supply", optTempU (s.supply l)),
     ("return", optTempU (s.return l)), ("flow", optIntU (s.flow l)), ("target", .temp e.target), ("band", .temp e.band),
     ("serving", .int (s.servingCount l)), ("admitting", .int (s.admittingCount l)), ("frost", .word (s.summaries[l]).name),
     ("fault", .word (if x.configFault then "CONFIG" else "NONE")), ("check", listVal (x.check.map CheckItem.name))])

/-! ## Commands -/

def execPumpSwap (args : List Arg) (s : State) : Host.Outcome State Fault Refusal := request "PUMP_SWAP" (reqPumpSwap args) s
def execPumpClear (args : List Arg) (s : State) : Host.Outcome State Fault Refusal := request "PUMP_CLEAR" (reqPumpClear args) s
def execLoopState (args : List Arg) (s : State) : Host.Outcome State Fault Refusal := request "LOOP_STATE" (reqLoopState args) s

/-- LOOP_TICK (R62): the tick timer expires. -/
def execLoopTick (l : LoopId) (s : State) : Host.Outcome State Fault Refusal :=
  happen (if (s.loops[l]).tick.isRunning then s.loopTick l else s)

/-- PROOF_TIMEOUT (R52, R56, R57): the proof timer expires in STARTING or FAILOVER. -/
def execProofTimeout (l : LoopId) (s : State) : Host.Outcome State Fault Refusal :=
  happen (if (s.loops[l]).proof.isRunning then s.proofExpired l else s)

/-- FLOWLOSS_END (R60): the proof timer expires in FLOWLOSS. -/
def execFlowlossEnd (l : LoopId) (s : State) : Host.Outcome State Fault Refusal :=
  happen (if (s.loops[l]).proof.isRunning ∧ (s.loops[l]).state = .flowloss then s.flowlossEnded l else s)

/-- LOWFLOW_EXPIRY (R54). -/
def execLowflowExpiry (l : LoopId) (s : State) : Host.Outcome State Fault Refusal :=
  happen (if (s.loops[l]).lowflow.isRunning ∧ (s.loops[l]).state = .running then s.lowflowExpired l else s)

/-- HOLDOFF_EXPIRY (R69). -/
def execHoldoffExpiry (l : LoopId) (s : State) : Host.Outcome State Fault Refusal :=
  happen (if (s.loops[l]).holdoff.isRunning then s.modLoop l fun x => { x with holdoff := .stopped } else s)

end Sys2Proof.Machine
end

