-- ==== Sys2Proof/Machine/CoilRequests.lean ====
section
/-! DEFINITION. The requests and expiries of the coil unit and the frost monitor's reading (R78 to R107, R124). -/

namespace Sys2Proof.Machine

/-! ## Rosters (R78, R79) -/

/-- ROSTER_GET (R78). -/
def reqRosterGet (args : List Arg) (s : State) : ReqResult :=
  checked (badArg [loopKey] args) <|
  withSome "loop" (loopArg args) fun l =>
  let r := s.cfg.rosters[l]
  .done s (.ok ([("loop", .word (loopName l)), ("count", .int r.length), ("order", listVal (r.map coilName)),
    ("rotate", optNat (s.units[l]).rotation.left)] ++
    (if (s.units[l]).deferred then [("deferred", Val.yesNo true)] else [])))

/-- Whether an order lists exactly the roster's coils, each once (R79). -/
def sameMembers (r order : List CoilId) : Bool := order.length = r.length && r.all fun c => order.contains c

/-- ROSTER_ORDER (R79). -/
def reqRosterOrder (args : List Arg) (s : State) : ReqResult :=
  checked (badArg [loopKey, .need "order" [.list, .none] (known (readList readCoil))] args) <|
  withSome "loop" (loopArg args) fun l =>
  withSome "order" ((argOf args "order").bind (readList readCoil)) fun order =>
  refusedIf (!sameMembers (s.cfg.rosters[l]) order) (.badArg "order") <|
  refusedIf (!s.svcActive) (.refused "TIER" []) <|
  refusedIf (s.staging l) (.refused "STATE" []) <|
  .done (s.setRoster l order) (.ok [])

/-- ROSTER_ROTATE (R79). -/
def reqRosterRotate (args : List Arg) (s : State) : ReqResult :=
  checked (badArg [loopKey] args) <|
  withSome "loop" (loopArg args) fun l =>
  refusedIf (s.staging l) (.refused "STATE" []) <|
  .done (s.rotateRoster l) (.ok [])

/-! ## COIL_ADMIT, COIL_RETIRE, COIL_CLEAR (R94, R97, R106) -/

/-- COIL_ADMIT (R94): a HOLD override does not bar it. R94 does not spell the keys of its reply: loop= and position= are the model's choice
(assumption 17). -/
def reqCoilAdmit (args : List Arg) (s : State) : ReqResult :=
  checked (badArg [coilKey] args) <|
  withSome "coil" (coilArg args) fun c =>
  match s.coilLoop c with
  | none => .refuse (.refused "STATE" [])
  | some l =>
    refusedIf (!s.admissible c || 0 < s.admittingCount l) (.refused "STATE" []) <|
    .done (s.startAdmission c l)
      (.ok [("loop", .word (loopName l)),
            ("position", .int (stepPosition (s.cfg.loops[l]).admitSteps (s.firstStep c l)))])

/-- COIL_RETIRE (R97), which does not spell the keys of its reply: loop= and serving= are the model's choice (assumption 17). -/
def reqCoilRetire (args : List Arg) (s : State) : ReqResult :=
  checked (badArg [coilKey] args) <|
  withSome "coil" (coilArg args) fun c =>
  match s.coilLoop c with
  | none => .refuse (.refused "STATE" [])
  | some l =>
    refusedIf (!(s.coils[c]).service.isServing || s.staging l) (.refused "STATE" []) <|
    let s1 := s.startRetire c l false
    .done s1 (.ok [("loop", .word (loopName l)), ("serving", .int (s1.servingCount l))])

/-- The third pass of a group request (R128): every failing coil is gathered, and the request is applied to each or to none. -/
def groupRequest (cs : List CoilId) (bad : CoilId → Bool) (go : ReqResult) : ReqResult :=
  let failing := cs.filter bad
  if failing.isEmpty then go else .refuse (.refused "STATE" [("refused", .mask (maskOf failing))])

/-- Whether COIL_CLEAR is refused for a coil (R106); an unassigned coil refuses (R127). -/
def State.clearBad (s : State) (c : CoilId) : Bool :=
  (s.coilLoop c).isNone || !s.nodesOnline c ||
    (match (s.coils[c]).service with
     | .faulted _ => false
     | _ => true)

/-- COIL_CLEAR (R106, R128). -/
def reqCoilClear (args : List Arg) (s : State) : ReqResult :=
  checked (badArgGroup [] args) <|
  groupRequest (coilsArg args) s.clearBad <|
  .done (s.wholeRequest fun s => s.forEach (coilsArg args) fun c s => s.coilCleared c) (.ok [])

/-! ## COIL_STATE (R107) -/

/-- The sub-phase of a service state, none otherwise (R107). -/
def Service.phaseVal : Service → Val
  | .admitting k d h => .words [toString k, admitPhaseName d h]
  | .retiring p _ => .word p.name
  | .keepwarm k => .word k.name
  | .faulted c => .word c.name
  | _ => .none

def Service.outFlag : Service → Bool
  | .retiring _ o => o
  | _ => false

/-- A fan status reading by name, as its number where R195 gives none (the model's choice, assumption 52), or NONE. -/
def fanStatusVal : Option Int → Val
  | none => .unknown
  | some v =>
    if v = 0 then .word "READY" else if v = 1 then .word "RUNNING" else if v = 2 then .word "REVERSING"
    else if v = codeFault then .word "FAULT" else .int v

/-- An override with its value, and its expiry where one is set (R107). -/
def overrideVal : Option Override → Val
  | none => .word "NONE"
  | some o =>
    let kind := match o.kind with
      | .fan v => ["FAN", toString v]
      | .hold => ["HOLD"]
    .words (kind ++ (o.expiry.map toString).toList)

/-- A timer by name with the seconds remaining, marked where it is paused (R107). -/
def timerWord (name : String) : Timer → List String
  | .stopped => []
  | .running n => [name ++ ":" ++ toString n]
  | .paused n => [name ++ ":" ++ toString n ++ ":paused"]

/-- The rundown timer in the same way; one that has expired and waits for the rest of R96 is named waiting (assumption 17). -/
def rundownWord : RundownTimer → List String
  | .stopped => []
  | .running n => ["rundown:" ++ toString n]
  | .expiredWaiting => ["rundown:waiting"]

/-- The running and paused timers of a coil, in the order of R107. -/
def CoilSt.timerWords (x : CoilSt) : List String :=
  timerWord "stroke" x.stroke ++ timerWord "dwell" x.dwell ++ timerWord "admit" x.admission ++ timerWord "skip" x.skip ++
    rundownWord x.rundown ++ timerWord "kw" x.kwTimer ++ timerWord "kwdwell" x.kwDwell ++ timerWord "shed" x.shed ++
    timerWord "cooldown" x.cooldown

/-- The place of a coil in a list, counting from 1. -/
def placeIn (cs : List CoilId) (c : CoilId) : Option Nat := (cs.findIdx? fun d => d = c).map fun i => i + 1

/-- The coil's places in its loop's queues, and the permit (R107). -/
def State.queueWords (s : State) (c : CoilId) : List String :=
  match s.coilLoop c with
  | none => []
  | some l =>
    let u := s.units[l]
    ((placeIn u.kwQueue c).map fun i => "KW:" ++ toString i).toList ++
      ((placeIn u.shedQueue c).map fun i => "SHED:" ++ toString i).toList ++
      (if u.permit = some c then ["PERMIT"] else [])

/-- The line of one coil (R107). -/
def State.coilLine (s : State) (c : CoilId) : List Field :=
  let x := s.coils[c]
  [("coil", .word (coilName c)), ("loop", loopVal (s.coilLoop c)),
   ("pos", optNat ((s.coilLoop c).bind fun l => placeIn (s.cfg.rosters[l]) c)), ("state", .word x.service.name),
   ("phase", x.service.phaseVal), ("out", .yesNo x.service.outFlag), ("valve", optNat x.desiredValve),
   ("settled", .yesNo x.settled), ("feedback", optIntU (s.valvePosition c)), ("fan", .int x.desiredFan),
   ("fan_status", fanStatusVal (s.fanStatus c)), ("frost", .word (s.frost[c]).state.name),
   ("override", overrideVal s.overrides[c]), ("ref", optTemp x.admitRef), ("timers", listVal x.timerWords),
   ("queues", listVal (s.queueWords c))]

/-- The coils a reading selects: all sixteen where coils= is omitted (R107, R127). -/
def coilsOrAll (args : List Arg) : List CoilId := if hasKey args "coils" then coilsArg args else allCoils

/-- COIL_STATE (R107). The header gives the count of lines as count=, beside the lines= of R188 (assumption 41). -/
def reqCoilState (args : List Arg) (s : State) : ReqResult :=
  checked (badArg [.may "coils" [.mask] (known readMask)] args) <|
  let cs := coilsOrAll args
  .done s (.multi [("count", .int cs.length)] (cs.map s.coilLine))

/-! ## FROST_STATE (R124) -/

/-- The freshness of a coil's outlet point, or none where no point is bound. -/
def State.outletFresh (s : State) (c : CoilId) : Val :=
  match (s.cfg.coils[c]).outletPt with
  | some pt => .word (s.pointEntry pt).fresh.name
  | none => .none

/-- The line of one coil (R124). -/
def State.frostLine (s : State) (c : CoilId) : List Field :=
  let f := s.frost[c]
  [("coil", .word (coilName c)), ("loop", loopVal (s.coilLoop c)), ("frost", .word f.state.name), ("value", optTempU f.value),
   ("fresh", s.outletFresh c), ("since", .int f.since), ("cause", .word f.cause.name),
   ("svc", .word (s.coils[c]).service.name)]

/-- The reply for one loop (R124). The rule spells no key for the loop's summary; summary is the model's word (assumption 17). -/
def State.frostOfLoop (s : State) (l : LoopId) : Reply :=
  let r := s.cfg.loops[l]
  .multi [("loop", .word (loopName l)), ("summary", .word (s.summaries[l]).name), ("trip", .temp r.tripLevel),
      ("watch", .temp r.watchLevel), ("trip_rel", .temp r.tripRelease), ("watch_rel", .temp r.watchRelease)]
    ((s.cfg.rosters[l]).map s.frostLine)

/-- The reply for all sixteen coils. -/
def State.frostOfAll (s : State) : Reply :=
  .multi (allLoops.map fun l => (loopName l, .word (s.summaries[l]).name)) (allCoils.map s.frostLine)

/-- FROST_STATE (R124). -/
def reqFrostState (args : List Arg) (s : State) : ReqResult :=
  checked (badArg [.may "loop" [.name] (known readLoop)] args) <|
  match loopArg args with
  | some l => .done s (s.frostOfLoop l)
  | none => .done s s.frostOfAll

/-! ## Commands -/

def execRosterGet (args : List Arg) (s : State) : Host.Outcome State Fault Refusal := request "ROSTER_GET" (reqRosterGet args) s
def execRosterOrder (args : List Arg) (s : State) : Host.Outcome State Fault Refusal :=
  request "ROSTER_ORDER" (reqRosterOrder args) s
def execRosterRotate (args : List Arg) (s : State) : Host.Outcome State Fault Refusal :=
  request "ROSTER_ROTATE" (reqRosterRotate args) s
def execCoilAdmit (args : List Arg) (s : State) : Host.Outcome State Fault Refusal := request "COIL_ADMIT" (reqCoilAdmit args) s
def execCoilRetire (args : List Arg) (s : State) : Host.Outcome State Fault Refusal :=
  request "COIL_RETIRE" (reqCoilRetire args) s
def execCoilClear (args : List Arg) (s : State) : Host.Outcome State Fault Refusal := request "COIL_CLEAR" (reqCoilClear args) s
def execCoilState (args : List Arg) (s : State) : Host.Outcome State Fault Refusal := request "COIL_STATE" (reqCoilState args) s
def execFrostState (args : List Arg) (s : State) : Host.Outcome State Fault Refusal :=
  request "FROST_STATE" (reqFrostState args) s

/-- ROTATE_TIMER_EXPIRY (R80): the timer restarts; the roster rotates, or the rotation is deferred. -/
def execRotateTimerExpiry (l : LoopId) (s : State) : Host.Outcome State Fault Refusal :=
  happen (if (s.units[l]).rotation.isRunning then
      if (s.startRotation l).staging l then (s.startRotation l).modUnit l fun u => { u with deferred := true }
      else (s.startRotation l).autoRotate l
    else s)

/-- STROKE_TIMEOUT (R85). -/
def execStrokeTimeout (c : CoilId) (s : State) : Host.Outcome State Fault Refusal :=
  happen (if (s.coils[c]).stroke.isRunning then s.strokeExpired c else s)

/-- STEP_DWELL_EXPIRY (R90). -/
def execStepDwellExpiry (c : CoilId) (s : State) : Host.Outcome State Fault Refusal :=
  happen (if (s.coils[c]).dwell.isRunning then s.nextStep c else s)

/-- An expiry of a coil's timer in the loop it is assigned to. -/
def State.onLoopOf (s : State) (c : CoilId) (f : LoopId → State) : State :=
  match s.coilLoop c with
  | some l => f l
  | none => s

/-- ADMIT_TIMEOUT (R92). -/
def execAdmitTimeout (c : CoilId) (s : State) : Host.Outcome State Fault Refusal :=
  happen (if (s.coils[c]).admission.isRunning ∧ (s.coils[c]).service.isAdmitting then
      s.onLoopOf c fun l => s.admissionTimedOut c l
    else s)

/-- ADMIT_SKIP_EXPIRY (R92). -/
def execAdmitSkipExpiry (c : CoilId) (s : State) : Host.Outcome State Fault Refusal :=
  happen (if (s.coils[c]).skip.isRunning then s.modCoil c fun x => { x with skip := .stopped } else s)

/-- RUNDOWN_EXPIRY (R96). -/
def execRundownExpiry (c : CoilId) (s : State) : Host.Outcome State Fault Refusal :=
  happen (match (s.coils[c]).rundown with
    | .running _ => s.onLoopOf c fun l => s.rundownExpired c l
    | _ => s)

/-- KEEPWARM_TIMER_EXPIRY (R98). -/
def execKeepwarmTimerExpiry (c : CoilId) (s : State) : Host.Outcome State Fault Refusal :=
  happen (if (s.coils[c]).kwTimer.isRunning then s.onLoopOf c fun l => s.kwTimerExpired c l else s)

/-- KW_DWELL_EXPIRY (R100, R101). -/
def execKwDwellExpiry (c : CoilId) (s : State) : Host.Outcome State Fault Refusal :=
  happen (if (s.coils[c]).kwDwell.isRunning then s.onLoopOf c fun l => s.kwDwellExpired c l else s)

/-- SHED_TIMER_EXPIRY (R104). -/
def execShedTimerExpiry (c : CoilId) (s : State) : Host.Outcome State Fault Refusal :=
  happen (if (s.coils[c]).shed.isRunning then s.endSheddingIf c "TIMER" .routine else s)

/-- SHED_COOLDOWN_EXPIRY (R102). -/
def execShedCooldownExpiry (c : CoilId) (s : State) : Host.Outcome State Fault Refusal :=
  happen (if (s.coils[c]).cooldown.isRunning then s.modCoil c fun x => { x with cooldown := .stopped } else s)

end Sys2Proof.Machine
end

