-- ==== Sys2Proof/Machine/Fields.lean ====
section
/-! DEFINITION. The fields of the configuration records (R3, R4, R5, R8, R162, R166): key, forms, range, tier, and how each is read and
written; the three passes of a write request (R1, R2). -/

namespace Sys2Proof.Machine

/-- The tiers of record fields (R1); a binding field is SERVICE and may change only in COMMISSION. -/
inductive Tier where
  | operate | service | binding
deriving DecidableEq, Repr

/-- One field of a record: put gives the record with the value written, none where the value is out of range. -/
structure Col (α : Type) where
  key   : String
  forms : List Form
  tier  : Tier
  put   : α → String → Option α
  get   : α → Val

/-- An integer field with its range. -/
def natCol {α : Type} (key : String) (tier : Tier) (lo hi : Nat) (get : α → Nat) (set : α → Nat → α) : Col α :=
  { key := key, forms := [.int], tier := tier,
    put := fun r v => if intIn lo hi v then some (set r ((readInt v).getD 0).toNat) else none,
    get := fun r => .int (get r) }

/-- An integer field that is 0 (off) or in a range. -/
def offCol {α : Type} (key : String) (tier : Tier) (lo hi : Nat) (get : α → Nat) (set : α → Nat → α) : Col α :=
  { key := key, forms := [.int], tier := tier,
    put := fun r v => if intIn 0 0 v || intIn lo hi v then some (set r ((readInt v).getD 0).toNat) else none,
    get := fun r => .int (get r) }

/-- A temperature field with its range in tenths. -/
def tempCol {α : Type} (key : String) (tier : Tier) (lo hi : Temp) (get : α → Temp) (set : α → Temp → α) : Col α :=
  { key := key, forms := [.temp], tier := tier,
    put := fun r v => if tempIn lo hi v then some (set r ((readTemp v).getD 0)) else none,
    get := fun r => .temp (get r) }

/-- A field of a known name. -/
def nameCol {α β : Type} (key : String) (forms : List Form) (tier : Tier) (read : String → Option β) (val : β → Val)
    (get : α → β) (set : α → β → α) : Col α :=
  { key := key, forms := forms, tier := tier, put := fun r v => (read v).map (set r), get := fun r => val (get r) }

/-- A node binding, or none. -/
def nodeCol {α : Type} (key : String) (get : α → Option NodeId) (set : α → Option NodeId → α) : Col α :=
  nameCol key [.name, .none] .binding (readOpt readNode) nodeVal get set

/-- A point binding, or none. -/
def pointCol {α : Type} (key : String) (get : α → Option PointRef) (set : α → Option PointRef → α) : Col α :=
  nameCol key [.point, .none] .binding (readOpt readPoint) pointVal get set

def yesNoCol {α : Type} (key : String) (tier : Tier) (get : α → Bool) (set : α → Bool → α) : Col α :=
  nameCol key [.yesNo] tier readYesNo Val.yesNo get set

/-! ## The site record (R3) -/

/-- A pulse channel that may be named as outdoor_pulse: in WIDTH mode (R3). That the mode is checked with the ranges, as R3 writes it, and
not after them with the conditions R2 names, is the model's choice (assumption 9). -/
def readWidthChan (chans : Vector ChanRec 6) (v : String) : Option ChanId :=
  (readChan v).bind fun p => if (chans[p]).mode = .width then some p else none

/-- A roof bus rate (R3). -/
def readRate (v : String) : Option Nat := [9600, 19200, 38400].find? fun n => readInt v = some (n : Int)

def siteCols (chans : Vector ChanRec 6) : List (Col SiteRec) :=
  [pointCol "outdoor_pt" (·.outdoorPt) (fun r x => { r with outdoorPt := x }),
   nameCol "outdoor_pulse" [.name, .none] .service (readOpt (readWidthChan chans)) (optWord chanName) (·.outdoorPulse)
     (fun r x => { r with outdoorPulse := x }),
   nameCol "bus_rate" [.int] .service readRate (fun n => Val.int n) (·.busRate) (fun r x => { r with busRate := x }),
   natCol "reply_window" .service 10 200 (·.replyWindow) (fun r x => { r with replyWindow := x }),
   natCol "stale_limit" .service 5 120 (·.staleLimit) (fun r x => { r with staleLimit := x }),
   natCol "round_spacing" .service 0 10 (·.roundSpacing) (fun r x => { r with roundSpacing := x })]

/-! ## Node records (R4) -/

def readRole : String → Option NodeRole := findName [.none, .fan, .valve, .pump, .sensor] NodeRole.name

def nodeCols : List (Col NodeRec) :=
  [nameCol "role" [.name] .binding readRole (fun r => .word r.name) (·.role) (fun r x => { r with role := x }),
   natCol "channels" .binding 1 4 (·.channels) (fun r x => { r with channels := x })]

/-! ## Loop records (R5) -/

/-- A flow source: a pulse channel or a node.point. -/
def readFlow (v : String) : Option FlowSource :=
  match readChan v with
  | some p => some (.pulse p)
  | none => (readPoint v).map .point

/-- The first fields of R5. trip_margin has here the range that the largest watch_margin gives it, 1.0 to 29.0, so that a value above it
is out of range whatever the watch_margin; the rest of its range is LoopRec.marginsSound (assumption 9). -/
def loopBindCols : List (Col LoopRec) :=
  [yesNoCol "in_use" .binding (·.inUse) (fun r x => { r with inUse := x }),
   tempCol "freeze" .service (-600) 0 (·.freeze) (fun r x => { r with freeze := x }),
   tempCol "watch_margin" .service 30 300 (·.watchMargin) (fun r x => { r with watchMargin := x }),
   tempCol "trip_margin" .service 10 290 (·.tripMargin) (fun r x => { r with tripMargin := x }),
   tempCol "frost_hyst" .service 5 50 (·.frostHyst) (fun r x => { r with frostHyst := x }),
   tempCol "floor" .service (-100) 250 (·.floor) (fun r x => { r with floor := x }),
   natCol "min_flow" .service 0 60000 (·.minFlow) (fun r x => { r with minFlow := x }),
   nodeCol "pump_a" (·.pumpA) (fun r x => { r with pumpA := x }),
   nodeCol "pump_b" (·.pumpB) (fun r x => { r with pumpB := x }),
   nodeCol "bypass" (·.bypass) (fun r x => { r with bypass := x }),
   pointCol "supply_pt" (·.supplyPt) (fun r x => { r with supplyPt := x }),
   pointCol "return_pt" (·.returnPt) (fun r x => { r with returnPt := x }),
   nameCol "flow_src" [.name, .point, .none] .binding (readOpt readFlow) (optWord FlowSource.name) (·.flowSrc)
     (fun r x => { r with flowSrc := x }),
   natCol "prove" .service 10 120 (·.prove) (fun r x => { r with prove := x }),
   natCol "flowloss_time" .service 5 60 (·.flowlossTime) (fun r x => { r with flowlossTime := x })]

def loopTuneCols : List (Col LoopRec) :=
  [tempCol "fallback_target" .operate (-100) 400 (·.fallbackTarget) (fun r x => { r with fallbackTarget := x }),
   tempCol "fallback_band" .operate 2 50 (·.fallbackBand) (fun r x => { r with fallbackBand := x }),
   natCol "tick" .operate 5 60 (·.tick) (fun r x => { r with tick := x }),
   natCol "fan_step" .operate 2 10 (·.fanStep) (fun r x => { r with fanStep := x }),
   natCol "bypass_step" .operate 5 25 (·.bypassStep) (fun r x => { r with bypassStep := x }),
   natCol "holdoff" .operate 60 1800 (·.holdoff) (fun r x => { r with holdoff := x }),
   natCol "admit_steps" .operate 2 10 (·.admitSteps) (fun r x => { r with admitSteps := x }),
   natCol "step_dwell" .operate 30 600 (·.stepDwell) (fun r x => { r with stepDwell := x }),
   tempCol "slug" .operate 5 50 (·.slug) (fun r x => { r with slug := x }),
   natCol "admit_timeout" .operate 300 7200 (·.admitTimeout) (fun r x => { r with admitTimeout := x }),
   natCol "rundown" .operate 10 120 (·.rundown) (fun r x => { r with rundown := x }),
   natCol "stroke_timeout" .operate 30 300 (·.strokeTimeout) (fun r x => { r with strokeTimeout := x })]

def loopKeepCols : List (Col LoopRec) :=
  [tempCol "kw_threshold" .operate (-400) 50 (·.kwThreshold) (fun r x => { r with kwThreshold := x }),
   natCol "kw_interval" .operate 600 21600 (·.kwInterval) (fun r x => { r with kwInterval := x }),
   natCol "kw_dwell" .operate 60 1800 (·.kwDwell) (fun r x => { r with kwDwell := x }),
   natCol "kw_position" .operate 5 40 (·.kwPosition) (fun r x => { r with kwPosition := x }),
   natCol "kw_concurrency" .operate 1 4 (·.kwConcurrency) (fun r x => { r with kwConcurrency := x }),
   natCol "shed_speed" .operate 20 100 (·.shedSpeed) (fun r x => { r with shedSpeed := x }),
   natCol "shed_time" .operate 30 600 (·.shedTime) (fun r x => { r with shedTime := x }),
   natCol "shed_cooldown" .operate 600 14400 (·.shedCooldown) (fun r x => { r with shedCooldown := x }),
   natCol "icing_limit" .operate 10 90 (·.icingLimit) (fun r x => { r with icingLimit := x }),
   offCol "rotate_interval" .operate 3600 604800 (·.rotateInterval) (fun r x => { r with rotateInterval := x }),
   offCol "sample_every" .operate 1 60 (·.sampleEvery) (fun r x => { r with sampleEvery := x })]

def loopCols : List (Col LoopRec) := loopBindCols ++ loopTuneCols ++ loopKeepCols

/-! ## Coil records (R8) -/

/-- The option names (R8, R133). -/
inductive OptName where
  | shedOk | keepwarmOk | reverseOk
deriving DecidableEq, Repr

def OptName.name : OptName → String
  | .shedOk => "SHED_OK"
  | .keepwarmOk => "KEEPWARM_OK"
  | .reverseOk => "REVERSE_OK"

def allOptNames : List OptName := [.shedOk, .keepwarmOk, .reverseOk]

def CoilOptions.has (o : CoilOptions) : OptName → Bool
  | .shedOk => o.shedOk
  | .keepwarmOk => o.keepwarmOk
  | .reverseOk => o.reverseOk

/-- The option set in which each option is as the test says. -/
def optionsOf (f : OptName → Bool) : CoilOptions :=
  { shedOk := f .shedOk, keepwarmOk := f .keepwarmOk, reverseOk := f .reverseOk }

def readOptName : String → Option OptName := findName allOptNames OptName.name

def CoilOptions.val (o : CoilOptions) : Val := listVal ((allOptNames.filter o.has).map OptName.name)

def coilCols : List (Col CoilRec) :=
  [nameCol "loop" [.name, .none] .binding (readOpt readLoop) loopVal (·.loop) (fun r x => { r with loop := x }),
   nodeCol "fan_node" (·.fanNode) (fun r x => { r with fanNode := x }),
   nodeCol "valve_node" (·.valveNode) (fun r x => { r with valveNode := x }),
   pointCol "outlet_pt" (·.outletPt) (fun r x => { r with outletPt := x }),
   pointCol "icing_pt" (·.icingPt) (fun r x => { r with icingPt := x }),
   natCol "fan_min" .operate 10 50 (·.fanMin) (fun r x => { r with fanMin := x }),
   natCol "fan_max" .operate 50 100 (·.fanMax) (fun r x => { r with fanMax := x }),
   nameCol "options" [.list, .none] .operate (fun v => (readList readOptName v).map fun os => optionsOf os.contains)
     CoilOptions.val (·.options) (fun r x => { r with options := x })]

/-! ## Channel and input records (R162, R166) -/

def readChanMode : String → Option ChanMode := findName [.off, .count, .period, .width] ChanMode.name
def readEdge : String → Option Edge := findName [.rise, .fall] edgeName

/-- The channel fields; scale is written as a temperature is, with one decimal place, and held in tenths. -/
def chanCols : List (Col ChanRec) :=
  [nameCol "mode" [.name] .service readChanMode (fun m => .word m.name) (·.mode) (fun r x => { r with mode := x }),
   nameCol "edge" [.name] .service readEdge (fun e => .word (edgeName e)) (·.edge) (fun r x => { r with edge := x }),
   tempCol "scale" .service 1 10000 (fun r => (r.scale : Int)) (fun r x => { r with scale := x.toNat }),
   natCol "silence" .service 1 60 (·.silence) (fun r x => { r with silence := x })]

def levelName (high : Bool) : String := if high then "HIGH" else "LOW"
def readLevel : String → Option Bool := findName [true, false] levelName
def readNotice : String → Option InputNotice := findName [.none, .rise, .fall, .both] InputNotice.name
def readInputRole : String → Option InputRole := findName [.none, .plantStop, .snowWarn, .general] InputRole.name

def inputCols : List (Col InputRec) :=
  [nameCol "level" [.name] .service readLevel (fun b => .word (levelName b)) (·.activeHigh)
     (fun r x => { r with activeHigh := x }),
   natCol "debounce" .service 10 500 (·.debounce) (fun r x => { r with debounce := x }),
   nameCol "notice" [.name] .service readNotice (fun n => .word n.name) (·.notice) (fun r x => { r with notice := x }),
   nameCol "role" [.name] .service readInputRole (fun r => .word r.name) (·.role) (fun r x => { r with role := x })]

/-! ## Reading a record (R10) -/

/-- One continuation line for each field, carrying its name and value. -/
def fieldLines {α : Type} (cols : List (Col α)) (r : α) : List (List Field) := cols.map fun c => [(c.key, c.get r)]

/-- The fields on one line. -/
def fieldKeys {α : Type} (cols : List (Col α)) (r : α) : List Field := cols.map fun c => (c.key, c.get r)

/-! ## Writing a record (R1, R2) -/

def colOf {α : Type} (cols : List (Col α)) (k : String) : Option (Col α) := cols.find? fun c => c.key = k

/-- A field as a key of a write request, its range tried on a record of defaults. -/
def Col.spec {α : Type} (base : α) (c : Col α) : KeySpec := .may c.key c.forms fun v => (c.put base v).isSome

/-- Form and range of a write request: its selector and its fields (R2, first pass). -/
def setFault {α : Type} (sel : List KeySpec) (cols : List (Col α)) (base : α) (args : List Arg) : Option String :=
  badArg (sel ++ cols.map (Col.spec base)) args

/-- The record as it would stand after the whole request. -/
def applyArgs {α : Type} (cols : List (Col α)) (args : List Arg) (r : α) : α :=
  args.foldl (fun r a =>
    match colOf cols a.key, a.val with
    | some c, some v => (c.put r v).getD r
    | _, _ => r) r

/-- The key of a failing condition between fields: the one of its keys that the request names first (R2). -/
def firstNamed (keys : List String) (args : List Arg) : Option String :=
  (args.find? fun a => keys.contains a.key).map fun a => a.key

/-- The tier of the key of a pair. -/
def tierOf {α : Type} (cols : List (Col α)) (a : Arg) : Tier :=
  match colOf cols a.key with
  | some c => c.tier
  | none => .operate

/-- Second pass (R1): a SERVICE or binding field with SVC inactive. -/
def State.tierFault {α : Type} (s : State) (cols : List (Col α)) (args : List Arg) : Option String :=
  if s.svcActive then none else (args.find? fun a => tierOf cols a ≠ .operate).map fun a => a.key

/-- Third pass, binding fields (R1): only in COMMISSION. -/
def State.modeFault {α : Type} (s : State) (cols : List (Col α)) (args : List Arg) : Option String :=
  if s.mode = .commission then none else (args.find? fun a => tierOf cols a = .binding).map fun a => a.key

/-- Third pass, conditions with other records: the first key in the line that fails (R2). -/
def stateFault (bad : String → Bool) (args : List Arg) : Option String := (args.find? fun a => bad a.key).map fun a => a.key

/-- A reason with the key that stopped the request. -/
def refusedAt (why key : String) : ReqResult := .refuse (.refused why [("key", .word key)])

/-- The passes after form and range: the conditions between fields, the tiers, the mode, the conditions with other records. -/
def State.passes {α : Type} (s : State) (cols : List (Col α)) (args : List Arg) (cross : Option String)
    (bad : String → Bool) (go : ReqResult) : ReqResult :=
  checked cross <|
  match s.tierFault cols args with
  | some k => refusedAt "TIER" k
  | none =>
    match s.modeFault cols args with
    | some k => refusedAt "MODE" k
    | none =>
      match stateFault bad args with
      | some k => refusedAt "STATE" k
      | none => go

end Sys2Proof.Machine
end

