-- ==== Sys2Proof/Machine/Group.lean ====
section
/-! DEFINITION. Group requests and the override table (chapter 6). -/

namespace Sys2Proof.Machine

/-- An unassigned coil refuses every group request that changes state (R127, R128). -/
def State.unassigned (s : State) (c : CoilId) : Bool := (s.coilLoop c).isNone

/-! ## COIL_OUT, COIL_IN (R129 to R132) -/

/-- The selected coils of a loop in SERVING or SHEDDING. -/
def State.leaving (s : State) (cs : List CoilId) (l : LoopId) : Nat :=
  (cs.filter fun c => s.coilLoop c = some l && (s.coils[c]).service.isServing).length

/-- COIL_OUT applied: each loop whose serving count would fall to 0 tells its regulator first (R131), in order of loop
number (assumption 37), then the coils in order. -/
def State.outCoils (s : State) (cs : List CoilId) : State :=
  s.wholeRequest fun s =>
    (s.forEach allLoops fun l s => s.tellLast l (s.leaving cs l)).forEach cs fun c s => s.onLoopOf c fun l => s.coilOut c l

/-- COIL_OUT (R129). -/
def reqCoilOut (args : List Arg) (s : State) : ReqResult :=
  checked (badArgGroup [] args) <|
  let cs := coilsArg args
  groupRequest cs s.unassigned <|
  .done (s.outCoils cs) (.ok [("out", .mask (maskOf (cs.filter fun c => !(s.cfg.coils[c]).withdrawn)))])

/-- Whether COIL_IN is refused for a coil (R132). -/
def State.inBad (s : State) (c : CoilId) : Bool :=
  s.unassigned c ||
    (match s.mode with
     | .run => (s.coils[c]).service ≠ .out
     | .commission => !(s.cfg.coils[c]).withdrawn)

/-- COIL_IN (R132). -/
def reqCoilIn (args : List Arg) (s : State) : ReqResult :=
  checked (badArgGroup [] args) <|
  let cs := coilsArg args
  groupRequest cs s.inBad <|
  .done (s.wholeRequest fun s => s.forEach cs fun c s => s.onLoopOf c fun l => s.coilIn c l) (.ok [("in", .mask (maskOf cs))])

/-! ## COIL_AMEND, COIL_LIMITS (R133, R134) -/

/-- The operations of COIL_AMEND. -/
inductive AmendOp where
  | put | and | or | xor
deriving DecidableEq, Repr

def AmendOp.name : AmendOp → String
  | .put => "PUT"
  | .and => "AND"
  | .or => "OR"
  | .xor => "XOR"

def readAmendOp : String → Option AmendOp := findName [.put, .and, .or, .xor] AmendOp.name

/-- The new value of an option in the mask (R133). -/
def AmendOp.apply (op : AmendOp) (old given : Bool) : Bool :=
  match op with
  | .put => given
  | .and => old && given
  | .or => old || given
  | .xor => old != given

/-- The option set after an amendment: options not in the mask keep their values (R133). -/
def amend (op : AmendOp) (opts mask : List OptName) (o : CoilOptions) : CoilOptions :=
  optionsOf fun k => if mask.contains k then op.apply (o.has k) (opts.contains k) else o.has k

def optsKey (k : String) : KeySpec := .need k [.list, .none] (known (readList readOptName))
def optsArg (args : List Arg) (k : String) : List OptName := ((argOf args k).bind (readList readOptName)).getD []

/-- COIL_AMEND (R133). -/
def reqCoilAmend (args : List Arg) (s : State) : ReqResult :=
  checked (badArgGroup [.need "op" [.name] (known readAmendOp), optsKey "opts", optsKey "mask"] args) <|
  withSome "op" ((argOf args "op").bind readAmendOp) fun op =>
  let cs := coilsArg args
  let new := fun c : CoilId => amend op (optsArg args "opts") (optsArg args "mask") (s.cfg.coils[c]).options
  groupRequest cs s.unassigned <|
  .done (s.wholeRequest fun s => s.forEach cs fun c t => t.putOptions c (new c))
    (.ok [("changed", .mask (maskOf (cs.filter fun c => new c ≠ (s.cfg.coils[c]).options)))])

/-- An integer a request gives, or the present value (R134). -/
def natOr (args : List Arg) (k : String) (old : Nat) : Nat :=
  match (argOf args k).bind readInt with
  | some v => v.toNat
  | none => old

/-- The fan limits are written, and the desired fan speed computed anew (R134). -/
def State.setLimits (s : State) (c : CoilId) (lo hi : Nat) : State :=
  (s.modCoilRec c fun r => { r with fanMin := lo, fanMax := hi }).refan c .routine

/-- COIL_LIMITS (R134). A request that gives neither limit answers OK before the coils are checked, so also for an unassigned coil
(assumption 9). -/
def reqCoilLimits (args : List Arg) (s : State) : ReqResult :=
  checked (badArgGroup [.may "fan_min" [.int] (intIn 10 50), .may "fan_max" [.int] (intIn 50 100)] args) <|
  let cs := coilsArg args
  let lo := fun c : CoilId => natOr args "fan_min" (s.cfg.coils[c]).fanMin
  let hi := fun c : CoilId => natOr args "fan_max" (s.cfg.coils[c]).fanMax
  if !hasKey args "fan_min" && !hasKey args "fan_max" then .done s (.ok [("changed", .mask 0)])
  else
    groupRequest cs (fun c => s.unassigned c || hi c ≤ lo c) <|
    .done (s.wholeRequest fun s => s.forEach cs fun c t => t.setLimits c (lo c) (hi c))
      (.ok [("changed", .mask (maskOf (cs.filter fun c => lo c ≠ (s.cfg.coils[c]).fanMin || hi c ≠ (s.cfg.coils[c]).fanMax)))])

/-! ## COIL_MATCH (R135) -/

/-- The words of an attribute's list. -/
def wordsOf (v : String) : List String := (splitAt ',' v.toList).map String.ofList

/-- An attribute whose list draws on these names. -/
def attrKey (k : String) (names : List String) : KeySpec := .may k [.list] fun v => (wordsOf v).all names.contains

/-- The attribute loop: a list that draws on the loops and the word none (R135). -/
def loopAttrKey : KeySpec := .may "loop" [.listOrNone] fun v => (wordsOf v).all ("none" :: allLoops.map loopName).contains

def serviceNames : List String :=
  ["DORMANT", "OUT", "ISOLATED", "KEEPWARM", "ADMITTING", "SERVING", "SHEDDING", "RETIRING", "FAULTED"]

/-- The keys of COIL_MATCH (R135). That opt_set and opt_clear take none for the empty list, as R133 has it for opts and mask, while no
other attribute takes it, is the model's choice (assumption 8). -/
def matchKeys : List KeySpec :=
  [.may "coils" [.mask] (known readMask), loopAttrKey, attrKey "state" serviceNames,
   attrKey "frost" ["CLEAR", "WATCH", "TRIP", "UNKNOWN"], attrKey "override" ["NONE", "FAN", "HOLD"],
   attrKey "nodes" ["ONLINE", "NOT_ONLINE"], .may "opt_set" [.list, .none] (known (readList readOptName)),
   .may "opt_clear" [.list, .none] (known (readList readOptName))]

/-- An attribute that is omitted matches; one that is given matches when the coil's value is in its list. -/
def attrMatches (args : List Arg) (k value : String) : Bool :=
  match argOf args k with
  | none => true
  | some v => (wordsOf v).contains value

/-- The kind of a coil's override entry, or NONE. -/
def overrideKindName : Option Override → String
  | none => "NONE"
  | some ⟨.fan _, _⟩ => "FAN"
  | some ⟨.hold, _⟩ => "HOLD"

/-- A coil matches every attribute given (R135). -/
def State.coilMatches (s : State) (args : List Arg) (c : CoilId) : Bool :=
  attrMatches args "loop" (loopVal (s.coilLoop c)).text &&
  attrMatches args "state" (s.coils[c]).service.name &&
  attrMatches args "frost" (s.frost[c]).state.name &&
  attrMatches args "override" (overrideKindName s.overrides[c]) &&
  attrMatches args "nodes" (if s.nodesOnline c then "ONLINE" else "NOT_ONLINE") &&
  (optsArg args "opt_set").all (s.cfg.coils[c]).options.has &&
  (optsArg args "opt_clear").all fun k => !(s.cfg.coils[c]).options.has k

/-- COIL_MATCH (R135). -/
def reqCoilMatch (args : List Arg) (s : State) : ReqResult :=
  checked (badArg matchKeys args) <|
  let found := (coilsOrAll args).filter (s.coilMatches args)
  .done s (.ok [("coils", .mask (maskOf found)), ("count", .int found.length)])

/-! ## The override table (R136 to R139) -/

def readOverrideKind (v : String) : Option Bool := if v = "FAN" then some true else if v = "HOLD" then some false else none

/-- The keys of OVERRIDE_SET for a kind (R137); true is FAN. Where kind is missing or unknown, R137 gives value no range: the model holds it
to the 0 to 100 of FAN, so that a value outside that stands before an unknown kind is the key named (assumption 7). -/
def overrideKeys (fan : Option Bool) : List KeySpec :=
  let kind := KeySpec.need "kind" [.name] (known readOverrideKind)
  let for_ := KeySpec.may "for" [.int] (intIn 60 86400)
  match fan with
  | some true => [kind, .need "value" [.int] (intIn 0 100), for_]
  | some false => [kind, .may "value" [.int] (fun _ => false), for_]
  | none => [kind, .may "value" [.int] (intIn 0 100), for_]

/-- What an OVERRIDE SET event carries of an entry (R137); value is none for HOLD, which has none (assumption 15). -/
def Override.fields (o : Override) : List Field :=
  match o.kind with
  | .fan v => [("kind", .word "FAN"), ("value", .int v), ("expiry", optNat o.expiry)]
  | .hold => [("kind", .word "HOLD"), ("value", .none), ("expiry", optNat o.expiry)]

/-- One entry is made (R137): a FAN entry ends shedding; the fan speed anew; OVERRIDE traced. -/
def State.makeOverride (s : State) (c : CoilId) (o : Override) : State :=
  let s1 := s.setOverride c (some o)
  let s2 := match o.kind with
    | .fan _ => s1.leaveSheddingIf c "OVERRIDE" .routine
    | .hold => s1
  (s2.refan c .routine).event (.coil c) .override (("detail", .word "SET") :: o.fields)

/-- The entry a request gives (R137). -/
def overrideArg (args : List Arg) (fan : Bool) (now : Nat) : Override :=
  { kind := if fan then .fan (natOr args "value" 0) else .hold,
    expiry := ((argOf args "for").bind readInt).map fun n => now + n.toNat }

/-- OVERRIDE_SET (R137). -/
def reqOverrideSet (args : List Arg) (s : State) : ReqResult :=
  let fan := (argOf args "kind").bind readOverrideKind
  checked (badArgGroup (overrideKeys fan) args) <|
  withSome "kind" fan fun isFan =>
  let cs := coilsArg args
  groupRequest cs s.unassigned <|
  .done (s.wholeRequest fun s => s.forEach cs fun c t => t.makeOverride c (overrideArg args isFan s.uptime)) (.ok [("set", .mask (maskOf cs))])

/-- An entry is removed with its event, and the fan speed computed anew (R138). -/
def State.dropOverride (s : State) (c : CoilId) (detail : String) : State :=
  ((s.setOverride c none).event (.coil c) .override [("detail", .word detail)]).refan c .routine

/-- OVERRIDE_CLEAR (R138). -/
def reqOverrideClear (args : List Arg) (s : State) : ReqResult :=
  checked (badArgGroup [] args) <|
  let cs := coilsArg args
  let held := cs.filter fun c => (s.overrides[c]).isSome
  groupRequest cs s.unassigned <|
  .done (s.wholeRequest fun s => s.forEach held fun c t => t.dropOverride c "CLEARED") (.ok [("cleared", .mask (maskOf held))])

/-- Whether a coil's entry has reached its expiry (R138). -/
def State.overrideDue (s : State) (c : CoilId) : Bool :=
  match s.overrides[c] with
  | some o =>
    (match o.expiry with
     | some t => t ≤ s.uptime
     | none => false)
  | none => false

/-- An entry expires: removed, EXPIRED traced, OVERRIDE raised, the fan speed anew (R138). -/
def State.overrideExpired (s : State) (c : CoilId) : State :=
  (((s.setOverride c none).event (.coil c) .override [("detail", .word "EXPIRED")]).raise .override).refan c .routine

/-- The line of one entry (R139): value= for FAN only. -/
def State.overrideLine (s : State) (c : CoilId) : List (List Field) :=
  match s.overrides[c] with
  | none => []
  | some o =>
    let kind : List Field := match o.kind with
      | .fan v => [("kind", .word "FAN"), ("value", .int v)]
      | .hold => [("kind", .word "HOLD")]
    [[("coil", .word (coilName c)), ("loop", loopVal (s.coilLoop c))] ++ kind ++
      [("expiry", optNat o.expiry), ("left", optNat (o.expiry.map fun t => t - s.uptime))]]

/-- OVERRIDE_LIST (R139). -/
def reqOverrideList (args : List Arg) (s : State) : ReqResult :=
  checked (badArg [] args) <|
  let lines := allCoils.flatMap s.overrideLine
  .done s (.multi [("count", .int lines.length)] lines)

/-! ## Commands -/

def execCoilOut (args : List Arg) (s : State) : Host.Outcome State Fault Refusal := request "COIL_OUT" (reqCoilOut args) s
def execCoilIn (args : List Arg) (s : State) : Host.Outcome State Fault Refusal := request "COIL_IN" (reqCoilIn args) s
def execCoilAmendPut (args : List Arg) (s : State) : Host.Outcome State Fault Refusal :=
  request "COIL_AMEND" (reqCoilAmend (withPair "op" "PUT" args)) s
def execCoilAmendAnd (args : List Arg) (s : State) : Host.Outcome State Fault Refusal :=
  request "COIL_AMEND" (reqCoilAmend (withPair "op" "AND" args)) s
def execCoilAmendOr (args : List Arg) (s : State) : Host.Outcome State Fault Refusal :=
  request "COIL_AMEND" (reqCoilAmend (withPair "op" "OR" args)) s
def execCoilAmendXor (args : List Arg) (s : State) : Host.Outcome State Fault Refusal :=
  request "COIL_AMEND" (reqCoilAmend (withPair "op" "XOR" args)) s
def execCoilLimits (args : List Arg) (s : State) : Host.Outcome State Fault Refusal :=
  request "COIL_LIMITS" (reqCoilLimits args) s
def execCoilMatch (args : List Arg) (s : State) : Host.Outcome State Fault Refusal := request "COIL_MATCH" (reqCoilMatch args) s
def execOverrideSet (args : List Arg) (s : State) : Host.Outcome State Fault Refusal :=
  request "OVERRIDE_SET" (reqOverrideSet args) s
def execOverrideClear (args : List Arg) (s : State) : Host.Outcome State Fault Refusal :=
  request "OVERRIDE_CLEAR" (reqOverrideClear args) s
def execOverrideList (args : List Arg) (s : State) : Host.Outcome State Fault Refusal :=
  request "OVERRIDE_LIST" (reqOverrideList args) s

/-- OVERRIDE_EXPIRY (R138): the entry's expiry is reached. -/
def execOverrideExpiry (c : CoilId) (s : State) : Host.Outcome State Fault Refusal :=
  happen (if s.overrideDue c then s.overrideExpired c else s)

end Sys2Proof.Machine
end

