-- ==== Sys2Proof/Machine/InputRequests.lean ====
section
/-! DEFINITION. The requests and events of the input unit (R162 to R171). -/

namespace Sys2Proof.Machine

/-! ## Pulse channels (R162) -/

def chanKey : KeySpec := .need "channel" [.name] (known readChan)
def chanArg (args : List Arg) : Option ChanId := (argOf args "channel").bind readChan

/-- The channel record is written; a change of mode or edge restarts the measurement (R162, R165). -/
def State.setChanRec (s : State) (p : ChanId) (r : ChanRec) : State :=
  let old := s.cfg.chans[p]
  let s1 := s.modCfg fun g => { g with chans := g.chans.set p r }
  if r.mode = old.mode ∧ r.edge = old.edge then s1 else s1.restartChan p "SET"

/-- PULSE_SET (R162). -/
def reqPulseSet (args : List Arg) (s : State) : ReqResult :=
  checked (setFault [chanKey] chanCols .default args) <|
  withSome "channel" (chanArg args) fun p =>
  let r := applyArgs chanCols args s.cfg.chans[p]
  s.passes chanCols args none (fun k => k = "mode" && s.isOutdoorChan p && r.mode ≠ .width) <|
  .done (s.setChanRec p r) (.ok [])

/-- The role of a channel follows from the bindings that name it (R162). -/
def State.chanRoles (s : State) (p : ChanId) : List String :=
  let bound := (if (s.flowLoops p).isEmpty then [] else ["FLOW"]) ++ (if s.isOutdoorChan p then ["OUTDOOR"] else [])
  if bound.isEmpty then [if (s.cfg.chans[p]).mode = .off then "NONE" else "GENERAL"] else bound

/-- PULSE_GET (R162). -/
def reqPulseGet (args : List Arg) (s : State) : ReqResult :=
  checked (badArg [chanKey] args) <|
  withSome "channel" (chanArg args) fun p =>
  .done s (.ok (("channel", .word (chanName p)) :: fieldKeys chanCols s.cfg.chans[p] ++
    [("role", .words (s.chanRoles p)), ("loops", listVal ((s.flowLoops p).map loopName))]))

/-- The line of one channel (R171). since counts whole seconds from the last active edge to the present uptime second, rounded down
(assumption 21); the keys are the model's (assumption 41). -/
def State.chanLine (s : State) (p : ChanId) : List Field :=
  let x := (s.inputs.chans)[p]
  [("channel", .word (chanName p)), ("mode", .word (s.cfg.chans[p]).mode.name), ("role", .words (s.chanRoles p)),
   ("status", .word x.status.name), ("value", optIntU (x.value.map fun v => (v : Int))), ("count", .int x.lastCount),
   ("since", optNat (x.lastEdge.map fun t => (secondMicros s.uptime - t) / Config.microsPerSecond))]

/-- PULSE_STATE (R171). The count= of the header, beside the lines= of R188, is the model's (assumption 41). -/
def reqPulseState (args : List Arg) (s : State) : ReqResult :=
  checked (badArg [.may "channel" [.name] (known readChan)] args) <|
  let ps := match chanArg args with
    | some p => [p]
    | none => allChans
  .done s (.multi [("count", .int ps.length)] (ps.map s.chanLine))

/-! ## Discrete inputs (R166, R167) -/

def inputKey : KeySpec := .need "input" [.name] (known readInputName)
def inputArg (args : List Arg) : Option InputId := (argOf args "input").bind readInputName

/-- The input record is written; a change of level acts as a change of state, a change of role recomputes the conditions
(R166, R167). -/
def State.setInputRec (s : State) (i : InputId) (r : InputRec) : State :=
  let old := s.cfg.inputs[i]
  let s1 := s.modCfg fun g => { g with inputs := g.inputs.set i r }
  if r.activeHigh ≠ old.activeHigh then s1.inputChanged i
  else if r.role ≠ old.role then s1.recomputeConditions
  else s1

/-- INPUT_SET (R166). -/
def reqInputSet (args : List Arg) (s : State) : ReqResult :=
  checked (setFault [inputKey] inputCols .default args) <|
  withSome "input" (inputArg args) fun i =>
  s.passes inputCols args none (fun _ => false) <|
  .done (s.setInputRec i (applyArgs inputCols args s.cfg.inputs[i])) (.ok [])

/-- INPUT_GET (R166). -/
def reqInputGet (args : List Arg) (s : State) : ReqResult :=
  checked (badArg [inputKey] args) <|
  withSome "input" (inputArg args) fun i =>
  .done s (.ok (("input", .word (inputName i)) :: fieldKeys inputCols s.cfg.inputs[i]))

/-- The line of one discrete input (R171). -/
def State.inputLine (s : State) (i : InputId) : List Field :=
  let x := (s.inputs.contacts)[i]
  [("input", .word (inputName i)), ("pin", .word (levelName x.pin)), ("state", .word (activeName (s.inputActive i))),
   ("role", .word (s.cfg.inputs[i]).role.name), ("debounce", .yesNo x.timer.isSome)]

/-- INPUT_STATE (R171). The rule speaks of an input outside its range and gives the request no key: the model takes none, so that any input=
is BADARG key=input (assumption 46). -/
def reqInputState (args : List Arg) (s : State) : ReqResult :=
  checked (badArg [] args) <|
  .done s (.multi
    [("plant_stop", .word (activeName s.inputs.plantStop)), ("snow_warn", .word (activeName s.inputs.snowWarn)),
     ("svc", .word (activeName s.svcActive)),
     ("outdoor", match s.inputs.outdoor.temp with
       | some t => .temp t
       | none => .word "UNKNOWN"),
     ("source", .word s.inputs.outdoor.sourceName), ("host", optTemp (s.inputs.host.map fun h => h.value)),
     ("left", optNat (s.inputs.host.map fun h => h.expiry - s.uptime))]
    (allInputs.map s.inputLine))

/-! ## OUTDOOR_SET (R170) -/

/-- The keys of OUTDOOR_SET: with value=none, for is not taken (R170). -/
def outdoorKeys (removing : Bool) : List KeySpec :=
  let value := KeySpec.need "value" [.temp, .none] fun v => v = "none" || tempIn (-600) 1200 v
  if removing then [value, .may "for" [.int] fun _ => true] else [value, .need "for" [.int] (intIn 60 7200)]

/-- OUTDOOR_SET (R170). -/
def reqOutdoorSet (args : List Arg) (s : State) : ReqResult :=
  let removing := argOf args "value" = some "none"
  checked (badArg (outdoorKeys removing) args) <|
  let host : Option HostOutdoor :=
    if removing then none
    else some { value := ((argOf args "value").bind readTemp).getD 0,
                expiry := s.uptime + (((argOf args "for").bind readInt).getD 0).toNat }
  .done ((s.modInputs fun i => { i with host := host }).reselect) (.ok [])

/-! ## Commands -/

def execPulseSet (args : List Arg) (s : State) : Host.Outcome State Fault Refusal := request "PULSE_SET" (reqPulseSet args) s
def execPulseGet (args : List Arg) (s : State) : Host.Outcome State Fault Refusal := request "PULSE_GET" (reqPulseGet args) s
def execInputSet (args : List Arg) (s : State) : Host.Outcome State Fault Refusal := request "INPUT_SET" (reqInputSet args) s
def execInputGet (args : List Arg) (s : State) : Host.Outcome State Fault Refusal := request "INPUT_GET" (reqInputGet args) s
def execOutdoorSet (args : List Arg) (s : State) : Host.Outcome State Fault Refusal :=
  request "OUTDOOR_SET" (reqOutdoorSet args) s
def execPulseState (args : List Arg) (s : State) : Host.Outcome State Fault Refusal :=
  request "PULSE_STATE" (reqPulseState args) s
def execInputState (args : List Arg) (s : State) : Host.Outcome State Fault Refusal :=
  request "INPUT_STATE" (reqInputState args) s

/-- PULSE_EDGE (R163): a change of level on a pulse input. -/
def execPulseEdge (p : ChanId) (e : Edge) (micros : Nat) (s : State) : Host.Outcome State Fault Refusal :=
  happen (s.pulseEdge p e micros)

/-- GATE_END (R165). -/
def execGateEnd (p : ChanId) (s : State) : Host.Outcome State Fault Refusal := happen (s.gateEnd p)

/-- INPUT_PIN_CHANGE (R166, R168). -/
def execInputPinChange (pin : Pin) (high : Bool) (s : State) : Host.Outcome State Fault Refusal := happen (s.pinMoved pin high)

/-- DEBOUNCE_EXPIRY (R166 to R168). -/
def execDebounceExpiry (pin : Pin) (s : State) : Host.Outcome State Fault Refusal := happen (s.debounceExpired pin)

/-- HOST_OUTDOOR_EXPIRY (R170). -/
def execHostOutdoorExpiry (s : State) : Host.Outcome State Fault Refusal :=
  happen (match s.inputs.host with
    | some h => if h.expiry ≤ s.uptime then s.hostExpired else s
    | none => s)

end Sys2Proof.Machine
end

