-- ==== Sys2Proof/Machine/Mode.lean ====
section
/-! DEFINITION. Part modes, identity, the configuration store, starts and resets (R11 to R24, R193). -/

namespace Sys2Proof.Machine

/-! ## The start check and the start of loops (R12) -/

/-- A binding names a node of this role (R12). -/
def Settings.boundAs (g : Settings) (role : NodeRole) (n : Option NodeId) : Bool :=
  match n with
  | some k => (g.nodes[k]).role = role
  | none => false

/-- Whether an item of the start check holds (R12). -/
def State.itemHolds (s : State) (l : LoopId) : CheckItem → Bool
  | .pumpA => Settings.boundAs s.cfg .pump (s.cfg.loops[l]).pumpA
  | .pumpB => Settings.boundAs s.cfg .pump (s.cfg.loops[l]).pumpB
  | .bypass => Settings.boundAs s.cfg .valve (s.cfg.loops[l]).bypass
  | .supply => ((s.cfg.loops[l]).supplyPt).isSome
  | .coils => !(s.loopCoils l).isEmpty

/-- The items of the start check that fail (R12). -/
def State.startCheck (s : State) (l : LoopId) : List CheckItem :=
  [CheckItem.pumpA, .pumpB, .bypass, .supply, .coils].filter fun i => !s.itemHolds l i

/-- Loops in use that pass, or fail, the start check. -/
def State.passing (s : State) : List LoopId := allLoops.filter fun l => (s.cfg.loops[l]).inUse && (s.startCheck l).isEmpty
def State.failing (s : State) : List LoopId := allLoops.filter fun l => (s.cfg.loops[l]).inUse && !(s.startCheck l).isEmpty

/-- The coils of a loop that is not started are parked (R12). -/
def State.parkLoop (s : State) (l : LoopId) : State := s.forEach (s.loopCoils l) fun c s => s.parkCoil c

/-- One loop at a change to RUN (R12): STARTING, or CONFIG with its check list, or neither where it is not in use. -/
def State.startOrPark (s : State) (cause : String) (l : LoopId) : State :=
  if (s.cfg.loops[l]).inUse then
    if (s.startCheck l).isEmpty then
      ((s.modLoop l fun x => { x with configFault := false, check := [] }).enterStarting l cause).deliverLost
    else (s.modLoop l fun x => { x with configFault := true, check := s.startCheck l }).parkLoop l
  else s.parkLoop l

/-- The loops are started (R12, R20): unassigned coils OUT, then L0 to L3, then the summaries as coils became OUT (R121). -/
def State.startLoops (s : State) (cause : String) : State :=
  let s1 := s.forEach allCoils fun c s => if s.coilLoop c = none then s.parkCoil c else s
  (s1.forEach allLoops fun l s => s.startOrPark cause l).resummariseAll

/-! ## MODE_SET (R11 to R14) -/

def readMode : String → Option PartMode := findName [.commission, .run] PartMode.name

/-- The part mode changes: MODE traced with the old and new modes, and raised (R11). -/
def State.changeMode (s : State) (m : PartMode) : State :=
  (({ s with mode := m } : State).event .part .mode [("old", .word s.mode.name), ("new", .word m.name)]).raise .mode

/-- The change to COMMISSION (R13, R44, R73, R108, R161). An ACTIVE plan is paused as by PLAN_PAUSE, below its segment's end (R33). -/
def State.toCommission (s : State) : State :=
  let s1 := (s.changeMode .commission).forEach allLoops fun l s => s.idleLoop l
  let s2 := s1.forEach allCoils fun c s => s.modCoil c CoilSt.toDormant
  let s3 := s2.forEach allLoops fun l s =>
    (s.modUnit l LoopCoils.toIdle).modPlan l fun p => if p.state = .active then p.pause else p
  s3.dropOwnerEntries.resummariseAll

/-- MODE_SET (R11). A change to RUN is traced before the LOOP and COIL events of the loops it starts, an order R175 leaves open
(assumption 31). -/
def reqModeSet (args : List Arg) (s : State) : ReqResult :=
  checked (badArgOrdered [.need "mode" [.name] (known readMode)] args) <|
  withSome "mode" ((argOf args "mode").bind readMode) fun m =>
  refusedIf (m = .commission && !s.svcActive) (.refused "TIER" []) <|
  if m = s.mode then .done s (.ok [])
  else match m with
    | .commission => .done s.toCommission (.ok [])
    | .run =>
      .done ((s.changeMode .run).startLoops "MODE")
        (.ok [("started", listVal (s.passing.map loopName)), ("failed", listVal (s.failing.map loopName))])

/-! ## The store (R15 to R19) -/

/-- A save is accepted (R18): autorun taken, the image taken, the sections to be written no longer verify. -/
def State.startSave (s : State) (identity : Option IdentityData) : State :=
  let s1 := s.modCfg fun g => { g with site := { g.site with autorun := s.mode = .run } }
  { s1 with store :=
      { settings := .invalid,
        identity := if identity.isSome then .invalid else s.store.identity,
        saving := some { settings := s1.cfg, identity := identity } } }

/-- STORE_SAVE (R17). -/
def reqStoreSave (args : List Arg) (s : State) : ReqResult :=
  checked (badArg [] args) <|
  refusedIf s.store.saving.isSome .busy <|
  .done (s.startSave none) (.ok [])

/-- A site name's range (R15). -/
def siteOk (v : String) : Bool := 1 ≤ v.length && v.length ≤ 16

/-- The keys of IDENTITY_SET (R15). -/
def identityKeys : List KeySpec := [.need "site" [.text] siteOk, .need "cabinet" [.int] (intIn 1 999)]

/-- IDENTITY_SET (R15). -/
def reqIdentitySet (args : List Arg) (s : State) : ReqResult :=
  checked (badArgOrdered identityKeys args) <|
  refusedIf s.identity.set (.refused "TIER" []) <|
  refusedIf s.store.saving.isSome .busy <|
  let d : IdentityData :=
    { site := (argOf args "site").getD "", cabinet := ((argOf args "cabinet").bind readInt).map Int.toNat }
  .done (({ s with identity := { s.identity with data := d } } : State).startSave (some d)) (.ok [])

/-- A section written with an image: it verifies against it or not (R18). -/
def written {α : Type} (ok : Bool) (a : α) : Section α := if ok then .valid a else .invalid

/-- A save completes (R15, R18). -/
def State.saveCompleted (s : State) (job : SaveJob) (settingsMatch identityMatch : Bool) : State :=
  let s1 : State := { s with store := { s.store with settings := written settingsMatch job.settings, saving := none } }
  let s2 : State := match job.identity with
    | none => s1
    | some d =>
      { s1 with store := { s1.store with identity := written identityMatch d },
                identity := { s1.identity with set := s1.identity.set || identityMatch } }
  (s2.event .store .store
    (("result", .word s2.store.settings.name) ::
      (if job.identity.isSome then [("identity", .word (if s2.identity.set then "SET" else "BLANK"))] else []))).raise .store

/-! ## RESET (R21) -/

def ResetKind.name : ResetKind → String
  | .warm => "WARM"
  | .cold => "COLD"
  | .erase => "ERASE"

def readReset : String → Option ResetKind := findName [.warm, .cold, .erase] ResetKind.name

/-- RESET (R21): answered OK; it takes effect after the reply, and characters until then are discarded. -/
def reqReset (args : List Arg) (s : State) : ReqResult :=
  checked (badArgOrdered [.need "kind" [.name] (known readReset)] args) <|
  withSome "kind" ((argOf args "kind").bind readReset) fun k =>
  refusedIf (k = .erase && !s.svcActive) (.refused "TIER" []) <|
  .done (s.modLink fun x => { x with resetPending := some k }) (.ok [])

/-! ## Starts and resets (R20 to R24, R193) -/

/-- The reply to an accepted RESET has been sent in full (R21, R193): the transmitter's lines have ended as far as its last reply. -/
def Link.replySent (k : Link) : Link := { k with tx := (k.tx.reverse.takeWhile fun p => !p.isReply).reverse }

/-- The host link at every start and warm reset (R193), its rate kept. -/
def Link.cleared (k : Link) : Link := { receiver := .idle, tx := [], answer := none, resetPending := none, rate := k.rate }

/-- The notice unit at every start and warm reset (R193). -/
def Notice.cleared : Notice := { pending := [], enabled := [], due := false }

/-- The warm reset (R22, R182, R193). -/
def State.warmReset (s : State) : State :=
  ({ s with trace := Trace.reset, notice := Notice.cleared, link := s.link.cleared } : State).modBus
    fun b => { b with pass := .empty }

/-- The working copy a cold start loads (R20). A section that stands VALID verifies at every later start: the model's choice (assumption
25). -/
def Section.loaded : Section Settings → Settings
  | .valid g => g
  | _ => .default

/-- The identity record a cold start loads (R20). -/
def Section.identityLoaded : Section IdentityData → Identity
  | .valid d => { data := d, set := true }
  | _ => { data := { site := "", cabinet := none }, set := false }

/-- Whether the part enters RUN at a cold start (R20): the store state VALID, and autorun yes. -/
def Section.autoruns : Section Settings → Bool
  | .valid g => g.site.autorun
  | _ => false

/-- The input unit at a cold start: debounced levels from the pins; the channels are restarted after it (R166, R168, R172). -/
def Inputs.atStart (pulse : ChanId → Bool) (input : InputId → Bool) (svc : Bool) : Inputs :=
  { Inputs.reset with
      chans := allChans.foldl (fun v (p : ChanId) => v.set p { Chan.off0 with pin := pulse p }) (Vector.replicate 6 .off0),
      contacts := allInputs.foldl (fun v (i : InputId) => v.set i (Contact.atStart (input i))) (Vector.replicate 8 ⟨false, false, none⟩),
      svc := Contact.atStart svc }

/-- Every block at its cold-start values, with the working copy and identity of the image (R20, R45, R74, R108, R126, R161, R172,
R182, R193). -/
def State.blocksAtStart (s : State) (inputs : Inputs) (rate : Nat) : State :=
  let g := s.store.settings.loaded
  { State.reset with
      cfg := g, identity := s.store.identity.identityLoaded, store := { s.store with saving := none },
      bus := .cold0 g.site.busRate, inputs := inputs, trace := Trace.reset, link := { State.reset.link with rate := rate },
      pending := s.pending }

/-- The plant conditions as taken from the pins, given to no one (R166, R172). -/
def State.takeConditions (s : State) : State :=
  s.modInputs fun i => { i with plantStop := s.roleActive .plantStop, snowWarn := s.roleActive .snowWarn }

/-- The cold start of R20 from the image, with the pins and the host rate given. Round 0 begins; with every node NONE it ends as it
begins (R148). -/
def State.coldStart (s : State) (inputs : Inputs) (rate : Nat) : State :=
  let s1 := (s.blocksAtStart inputs rate).takeConditions
  let s2 := (s1.forEach allChans fun p s => s.restartChan p "START").resummariseAll
  let m := if s.store.settings.autoruns then PartMode.run else .commission
  let s3 := ({ s2 with mode := m } : State).event .part .mode [("cause", .word "START")]
  (if m = .run then s3.startLoops "START" else s3).beginRound

/-- The input unit's pins as they stand, for a cold start that is no power-on. -/
def State.inputsNow (s : State) : Inputs :=
  Inputs.atStart (fun p => ((s.inputs.chans)[p]).pin) (fun i => ((s.inputs.contacts)[i]).pin) s.inputs.svc.pin

/-- The host link rate of the straps (R183). -/
def strapRate (strap1 strap2 : Bool) : Nat :=
  match strap1, strap2 with
  | false, false => 19200
  | true, false => 57600
  | false, true => 115200
  | true, true => 19200

/-! ## Commands -/

/-- POWER_ON (R20, R183). -/
def execPowerOn (pins : PinLevels) (s : State) : Host.Outcome State Fault Refusal :=
  happen (s.coldStart (Inputs.atStart (fun p => pins.pulses.getLsbD p.val) (fun i => pins.inputs.getLsbD i.val) pins.svc)
    (strapRate pins.strap1 pins.strap2))

/-- An accepted RESET of this kind takes effect, its reply having been sent in full (R21, R193): the command is that moment (assumption
26). Without such a RESET it is no moment of the machine's, and nothing happens. -/
def State.whenReset (s : State) (k : ResetKind) (f : State → State) : State :=
  if s.link.resetPending = some k then f (s.modLink Link.replySent) else s

/-- The image is made BLANK, and the cold start finds it so (R24). -/
def State.erase (s : State) : State :=
  ({ s with store := { settings := .blank, identity := .blank, saving := none } } : State).coldStart s.inputsNow s.link.rate

/-- COLD_START (R20, R23). -/
def execColdStart (s : State) : Host.Outcome State Fault Refusal :=
  happen (s.whenReset .cold fun s => s.coldStart s.inputsNow s.link.rate)

/-- WARM_RESET (R22). -/
def execWarmReset (s : State) : Host.Outcome State Fault Refusal := happen (s.whenReset .warm State.warmReset)

/-- ERASE (R24). -/
def execErase (s : State) : Host.Outcome State Fault Refusal := happen (s.whenReset .erase State.erase)

def execModeSetRun (args : List Arg) (s : State) : Host.Outcome State Fault Refusal :=
  request "MODE_SET" (reqModeSet (withPair "mode" "RUN" args)) s
def execModeSetCommission (args : List Arg) (s : State) : Host.Outcome State Fault Refusal :=
  request "MODE_SET" (reqModeSet (withPair "mode" "COMMISSION" args)) s
def execIdentitySet (args : List Arg) (s : State) : Host.Outcome State Fault Refusal :=
  request "IDENTITY_SET" (reqIdentitySet args) s
def execStoreSave (args : List Arg) (s : State) : Host.Outcome State Fault Refusal := request "STORE_SAVE" (reqStoreSave args) s
def execResetWarm (args : List Arg) (s : State) : Host.Outcome State Fault Refusal :=
  request "RESET" (reqReset (withPair "kind" "WARM" args)) s
def execResetCold (args : List Arg) (s : State) : Host.Outcome State Fault Refusal :=
  request "RESET" (reqReset (withPair "kind" "COLD" args)) s
def execResetErase (args : List Arg) (s : State) : Host.Outcome State Fault Refusal :=
  request "RESET" (reqReset (withPair "kind" "ERASE" args)) s

/-- SAVE_COMPLETE (R18): the operands say whether each section written verifies. -/
def execSaveComplete (settingsMatch identityMatch : Bool) (s : State) : Host.Outcome State Fault Refusal :=
  happen (match s.store.saving with
    | some job => s.saveCompleted job settingsMatch identityMatch
    | none => s)

end Sys2Proof.Machine
end

