-- ==== Sys2Proof/Machine/Plan.lean ====
section
/-! DEFINITION. The plan unit and its requests (chapter 2). -/

namespace Sys2Proof.Machine

/-! ## The ring (R25) -/

/-- The slots in the live range of a plan that is not EMPTY. -/
def Plan.liveCount (p : Plan) : Nat := if p.state = .empty then 0 else (p.last - p.cur).val + 1

/-- Whether a slot lies in the live range. -/
def Plan.isLive (p : Plan) (i : SlotId) : Bool := p.state ≠ .empty && (i - p.cur).val ≤ (p.last - p.cur).val

/-- The slot after CUR. -/
def Plan.successor (p : Plan) : SlotId := p.cur + 1

/-- The slots from a forward to b, both included. -/
def slotsFrom (a b : SlotId) : List SlotId := (List.finRange 8).filter (fun k => k.val ≤ (b - a).val) |>.map fun k => a + k

/-- The first unfilled slot of a list. -/
def Plan.firstUnfilled (p : Plan) (is : List SlotId) : Option SlotId := is.find? fun i => ((p.slots)[i]).isNone

/-! ## Prepare checks (R34, R35, R36) -/

/-- The coils assigned to a loop and not withdrawn (R34). -/
def State.usableCoils (s : State) (l : LoopId) : Nat :=
  ((s.loopCoils l).filter fun c => !(s.cfg.coils[c]).withdrawn).length

/-- A prepare check of one slot against the loop as it stands (R34). -/
def State.prepareCheck (s : State) (l : LoopId) (i : SlotId) : Verdict :=
  match ((s.plans[l]).slots)[i] with
  | none => .pass
  | some g =>
    if g.target ≤ (s.cfg.loops[l]).floor + 10 then .target
    else if s.usableCoils l < g.minCoils then .coils
    else .pass

/-- A failing check is traced and raises PLAN (R35, R36). -/
def State.prepareFailed (s : State) (l : LoopId) (i : SlotId) (v : Verdict) (stage : String) : State :=
  (s.event (.loop l) .prepare [("slot", .int i.val), ("reason", .word v.name), ("stage", .word stage)]).raise .plan

/-- PREP and the verdict take the result of a check. -/
def State.setVerdict (s : State) (l : LoopId) (i : SlotId) (v : Verdict) : State :=
  s.modPlan l fun p => { p with prep := i, verdict := v }

/-- The check ahead on the successor of CUR (R35). -/
def State.checkAhead (s : State) (l : LoopId) : State :=
  let p := s.plans[l]
  if p.cur = p.last then s.modPlan l fun q => { q with verdict := .none }
  else
    let v := s.prepareCheck l p.successor
    let s1 := s.setVerdict l p.successor v
    if v = .pass then s1 else s1.prepareFailed l p.successor v "AHEAD"

/-! ## Segment ends (R31, R32, R36) -/

/-- The plan advances onto the successor of CUR (R31): the finished slot is unfilled, elapsed 0, the ramp starts from the target in
force, SEGMENT is traced, PLAN raised for notify but not for a release from HOLDING (R29), the next successor checked ahead; the
coil unit computes its fans under the new ceiling (R87). after is the plan state on the new segment. No rule spells the keys of SEGMENT;
they are the model's (assumption 15). -/
def State.advance (s : State) (l : LoopId) (cause : String) (quiet : Bool) (after : PlanState) : State :=
  let p := s.plans[l]
  let t0 := (s.effective l).target
  let notify := match (p.slots)[p.cur] with
    | some g => g.notify
    | none => false
  let s1 := s.modPlan l fun q =>
    { q with slots := q.slots.set p.cur none, state := after, cur := p.successor, elapsed := 0, rampStart := some t0 }
  let s2 := s1.event (.loop l) .segment
    [("slot", .int p.cur.val), ("cur", .int p.successor.val), ("cause", .word cause)]
  let s3 := if notify && !quiet then s2.raise .plan else s2
  (s3.checkAhead l).refanLoop l .routine

/-- The successor is checked at a segment end: a pass advances with the state after, a failure stops the plan (R36). -/
def State.endSegment (s : State) (l : LoopId) (cause : String) (quiet : Bool) (after : PlanState) : State :=
  let i := (s.plans[l]).successor
  let v := s.prepareCheck l i
  let s1 := s.setVerdict l i v
  if v = .pass then s1.advance l cause quiet after
  else (s1.modPlan l fun p => { p with state := .stopped }).prepareFailed l i v "END"

/-- The plan becomes HOLDING on its last segment (R32). -/
def State.holdPlan (s : State) (l : LoopId) : State :=
  ((s.modPlan l fun p => { p with state := .holding }).event (.loop l) .holding [("slot", .int (s.plans[l]).cur.val)]).raise .plan

/-- Whether the current segment's time has run out (R31). -/
def Plan.timeUp (p : Plan) : Bool :=
  match p.state, p.endsAt with
  | .active, some n => n ≤ p.elapsed
  | _, _ => false

/-- A segment ends by its duration (R31, R32). -/
def State.segmentEnded (s : State) (l : LoopId) : State :=
  let p := s.plans[l]
  if p.cur = p.last then s.holdPlan l else s.endSegment l "END" false .active

/-! ## Requests -/

/-- The keys a plan request reports its plan with (R28, R29, R39). -/
def Plan.keys (p : Plan) : List Field :=
  [("state", .word p.state.name), ("cur", .int p.cur.val), ("last", .int p.last.val), ("prep", .int p.prep.val),
   ("verdict", .word p.verdict.name)]

def readSlot (v : String) : Option SlotId := (List.finRange 8).find? fun i => readInt v = some (i.val : Int)

def slotKey (k : String) : KeySpec := .need k [.int] (known readSlot)

/-- The keys of PLAN_PUT (R26). -/
def planPutKeys : List KeySpec :=
  [loopKey, slotKey "slot", .need "target" [.temp] (tempIn (-100) 400), .need "band" [.temp] (tempIn 2 50),
   .need "ceiling" [.int] (intIn 10 100), .need "min_coils" [.int] (intIn 0 16), .need "max_coils" [.int] (intIn 0 16),
   .need "duration" [.int] (intIn 0 1440), .may "ramp" [.int] (intIn 0 240), .may "notify" [.yesNo] (known readYesNo)]

def natArg (args : List Arg) (k : String) : Nat := (((argOf args k).bind readInt).getD 0).toNat
def tempArg (args : List Arg) (k : String) : Temp := ((argOf args k).bind readTemp).getD 0
def slotArg (args : List Arg) (k : String) : SlotId := ((argOf args k).bind readSlot).getD 0

/-- The segment a PLAN_PUT gives (R26). -/
def segmentArg (args : List Arg) : Segment :=
  { target := tempArg args "target", band := tempArg args "band", ceiling := natArg args "ceiling",
    minCoils := natArg args "min_coils", maxCoils := natArg args "max_coils", duration := natArg args "duration",
    ramp := natArg args "ramp", notify := ((argOf args "notify").bind readYesNo).getD false }

/-- PLAN_PUT (R26). That max_coils below min_coils is found after every missing key and every other range is the model's choice
(assumption 7). -/
def reqPlanPut (args : List Arg) (s : State) : ReqResult :=
  checked (badArg planPutKeys args) <|
  withSome "loop" (loopArg args) fun l =>
  let g := segmentArg args
  let i := slotArg args "slot"
  refusedIf (g.maxCoils < g.minCoils) (.badArg "max_coils") <|
  refusedIf ((s.plans[l]).isLive i) (.refused "LIVE_SLOT" []) <|
  .done (s.modPlan l fun p => { p with slots := p.slots.set i (some g) }) (.ok [])

/-- The segment keys of PLAN_GET (R194). -/
def Segment.fields (g : Segment) : List Field :=
  [("target", .temp g.target), ("band", .temp g.band), ("ceiling", .int g.ceiling), ("min_coils", .int g.minCoils),
   ("max_coils", .int g.maxCoils), ("duration", .int g.duration), ("ramp", .int g.ramp), ("notify", .yesNo g.notify)]

/-- PLAN_GET (R27). -/
def reqPlanGet (args : List Arg) (s : State) : ReqResult :=
  checked (badArg [loopKey, slotKey "slot"] args) <|
  withSome "loop" (loopArg args) fun l =>
  let p := s.plans[l]
  let i := slotArg args "slot"
  .done s (.ok ([("slot", .int i.val), ("filled", .yesNo ((p.slots)[i]).isSome), ("live", .yesNo (p.isLive i))] ++
    match (p.slots)[i] with
    | some g => g.fields
    | none => []))

/-- The first commit of an EMPTY plan (R28). -/
def State.firstCommit (s : State) (l : LoopId) (i : SlotId) : State :=
  let t0 := (s.effective l).target
  ((s.modPlan l fun p => { p with last := i, state := .paused, elapsed := 0, rampStart := some t0 }).checkAhead l).refanLoop l
    .routine

/-- A commit that extends the live range (R29). -/
def State.extendPlan (s : State) (l : LoopId) (i : SlotId) : State :=
  let p := s.plans[l]
  if p.state = .holding then
    (s.modPlan l fun q => { q with last := i, state := .active }).endSegment l "COMMIT" true .active
  else
    let s1 := s.modPlan l fun q => { q with last := i }
    if p.cur = p.last then s1.checkAhead l else s1

/-- PLAN_COMMIT (R28, R29). -/
def reqPlanCommit (args : List Arg) (s : State) : ReqResult :=
  checked (badArg [loopKey, slotKey "last"] args) <|
  withSome "loop" (loopArg args) fun l =>
  let p := s.plans[l]
  let i := slotArg args "last"
  let need := if p.state = .empty then slotsFrom p.cur i else slotsFrom (p.last + 1) i
  refusedIf (p.isLive i) (.refused "LIVE_SLOT" []) <|
  match p.firstUnfilled need with
  | some n => .refuse (.refused "UNFILLED" [("slot", .int n.val)])
  | none =>
    let s1 := if p.state = .empty then s.firstCommit l i else s.extendPlan l i
    .done s1 (.ok (s1.plans[l]).keys)

/-- PLAN_RUN in STOPPED (R37). -/
def State.releaseStopped (s : State) (l : LoopId) : ReqResult :=
  let i := (s.plans[l]).successor
  let v := s.prepareCheck l i
  if v = .pass then .done (s.endSegment l "RUN" false .active) (.ok [])
  else .refuse (.refused "PREPARE" [("slot", .int i.val), ("reason", .word v.name)])

/-- PLAN_RUN (R37). -/
def reqPlanRun (args : List Arg) (s : State) : ReqResult :=
  checked (badArg [loopKey] args) <|
  withSome "loop" (loopArg args) fun l =>
  match (s.plans[l]).state with
  | .empty => .refuse (.refused "STATE" [])
  | .paused => .done (s.modPlan l fun p => { p with state := .active }) (.ok [])
  | .active => .done s (.ok [])
  | .holding => .done s (.ok [])
  | .stopped => s.releaseStopped l

/-- PLAN_PAUSE (R38). Before SEGMENT_END it is the pause taken first (R33): PLAN_RUN then has to let elapsed reach the duration. -/
def reqPlanPause (args : List Arg) (s : State) : ReqResult :=
  checked (badArg [loopKey] args) <|
  withSome "loop" (loopArg args) fun l =>
  .done (if (s.plans[l]).state = .active then s.modPlan l Plan.pause else s) (.ok [])

/-- The end a skip makes (R39): a plan keeps its state on an advance. -/
def State.skipSegment (s : State) (l : LoopId) : State :=
  let p := s.plans[l]
  if p.cur = p.last then s.holdPlan l else s.endSegment l "SKIP" false p.state

/-- PLAN_SKIP (R39). -/
def reqPlanSkip (args : List Arg) (s : State) : ReqResult :=
  checked (badArg [loopKey] args) <|
  withSome "loop" (loopArg args) fun l =>
  let p := s.plans[l]
  refusedIf (p.state ≠ .active && p.state ≠ .paused) (.refused "STATE" []) <|
  let s1 := s.skipSegment l
  .done s1 (.ok (("skipped", .int p.cur.val) :: (s1.plans[l]).keys))

/-- PLAN_CLEAR (R40): the plan becomes EMPTY, and the ceiling becomes the fallback's (R42, R87). -/
def reqPlanClear (args : List Arg) (s : State) : ReqResult :=
  checked (badArg [loopKey] args) <|
  withSome "loop" (loopArg args) fun l =>
  refusedIf ((s.plans[l]).state = .active) (.refused "STATE" []) <|
  .done ((s.modPlan l fun _ => .blank).refanLoop l .routine) (.ok [])

/-- PLAN_STATE (R43). -/
def reqPlanState (args : List Arg) (s : State) : ReqResult :=
  checked (badArg [loopKey] args) <|
  withSome "loop" (loopArg args) fun l =>
  let p := s.plans[l]
  let e := s.effective l
  .done s (.ok
    [("state", .word p.state.name), ("cur", .int p.cur.val), ("last", .int p.last.val), ("prep", .int p.prep.val),
     ("live", .int p.liveCount), ("elapsed", .int p.elapsed), ("verdict", .word p.verdict.name),
     ("source", .word (if p.state = .empty then "FALLBACK" else "PLAN")), ("target", .temp e.target), ("band", .temp e.band),
     ("ceiling", .int e.ceiling), ("min_coils", .int e.minCoils), ("max_coils", .int e.maxCoils), ("ramp", .int e.ramp)])

/-! ## Commands -/

def execPlanPut (args : List Arg) (s : State) : Host.Outcome State Fault Refusal := request "PLAN_PUT" (reqPlanPut args) s
def execPlanGet (args : List Arg) (s : State) : Host.Outcome State Fault Refusal := request "PLAN_GET" (reqPlanGet args) s
def execPlanCommit (args : List Arg) (s : State) : Host.Outcome State Fault Refusal :=
  request "PLAN_COMMIT" (reqPlanCommit args) s
def execPlanRun (args : List Arg) (s : State) : Host.Outcome State Fault Refusal := request "PLAN_RUN" (reqPlanRun args) s
def execPlanPause (args : List Arg) (s : State) : Host.Outcome State Fault Refusal := request "PLAN_PAUSE" (reqPlanPause args) s
def execPlanSkip (args : List Arg) (s : State) : Host.Outcome State Fault Refusal := request "PLAN_SKIP" (reqPlanSkip args) s
def execPlanClear (args : List Arg) (s : State) : Host.Outcome State Fault Refusal := request "PLAN_CLEAR" (reqPlanClear args) s
def execPlanState (args : List Arg) (s : State) : Host.Outcome State Fault Refusal := request "PLAN_STATE" (reqPlanState args) s

/-- SEGMENT_END (R31): the current segment's elapsed time has reached its duration. -/
def execSegmentEnd (l : LoopId) (s : State) : Host.Outcome State Fault Refusal :=
  happen (if (s.plans[l]).timeUp then s.segmentEnded l else s)

end Sys2Proof.Machine
end

