-- ==== Sys2Proof/Machine/Records.lean ====
section
/-! DEFINITION. The requests that read and write the site, node, loop and coil records (R2 to R10). -/

namespace Sys2Proof.Machine

/-! ## Conditions with other records (R3, R4, R6, R8) -/

/-- A point binding names a point of a SENSOR node below its channels, or none (R3, R6). -/
def Settings.pointSound (g : Settings) (pt : Option PointRef) : Bool :=
  match pt with
  | none => true
  | some q => (g.nodes[q.node]).role = .sensor && q.point < (g.nodes[q.node]).channels

/-- How many places bind a node as an output node. -/
def Settings.timesBound (g : Settings) (n : NodeId) : Nat :=
  (allOwners.filter fun o => Settings.boundNode g o = some n).length

/-- A node binding names a node of this role bound in no second place, or none (R6). -/
def Settings.outputSound (g : Settings) (role : NodeRole) (n : Option NodeId) : Bool :=
  match n with
  | none => true
  | some k => (g.nodes[k]).role = role && Settings.timesBound g k ≤ 1

/-- Every point binding of the settings. -/
def Settings.points (g : Settings) : List PointRef :=
  (g.site.outdoorPt).toList ++
  allLoops.flatMap (fun l =>
    ((g.loops[l]).supplyPt).toList ++ ((g.loops[l]).returnPt).toList ++
      (match (g.loops[l]).flowSrc with
       | some (.point pt) => [pt]
       | _ => [])) ++
  allCoils.flatMap fun c => ((g.coils[c]).outletPt).toList ++ ((g.coils[c]).icingPt).toList

/-- The working copy with one record replaced. -/
def Settings.withLoop (g : Settings) (l : LoopId) (r : LoopRec) : Settings := { g with loops := g.loops.set l r }
def Settings.withCoil (g : Settings) (c : CoilId) (r : CoilRec) : Settings := { g with coils := g.coils.set c r }
def Settings.withNode (g : Settings) (n : NodeId) (r : NodeRec) : Settings := { g with nodes := g.nodes.set n r }

/-! ## SITE_GET, SITE_SET (R3, R10) -/

/-- SITE_GET (R3, R10). -/
def reqSiteGet (args : List Arg) (s : State) : ReqResult :=
  checked (badArg [] args) <|
  .done s (.multi [("record", .word "SITE")]
    (fieldLines (siteCols s.cfg.chans) s.cfg.site ++
      [[("autorun", .yesNo s.cfg.site.autorun)], [("bus_rate_now", .int s.bus.rate)]]))

/-- The site record is written; a change of an outdoor source makes the selection again (R169). -/
def State.setSite (s : State) (r : SiteRec) : State :=
  let s1 := s.modCfg fun g => { g with site := r }
  if r.outdoorPt ≠ s.cfg.site.outdoorPt ∨ r.outdoorPulse ≠ s.cfg.site.outdoorPulse then s1.reselect else s1

/-- SITE_SET (R2, R3). -/
def reqSiteSet (args : List Arg) (s : State) : ReqResult :=
  let cols := siteCols s.cfg.chans
  let r := applyArgs cols args s.cfg.site
  checked (setFault [] cols s.cfg.site args) <|
  s.passes cols args none (fun k => k = "outdoor_pt" && !Settings.pointSound s.cfg r.outdoorPt) <|
  .done (s.setSite r) (.ok [])

/-! ## NODE_GET, NODE_SET (R4, R10) -/

def nodeKey : KeySpec := .need "node" [.name] (known readNode)
def nodeArg (args : List Arg) : Option NodeId := (argOf args "node").bind readNode

/-- NODE_GET (R10). -/
def reqNodeGet (args : List Arg) (s : State) : ReqResult :=
  checked (badArg [nodeKey] args) <|
  withSome "node" (nodeArg args) fun n =>
  .done s (.multi [("node", .word (nodeName n))] (fieldLines nodeCols s.cfg.nodes[n]))

/-- A NODE_SET that would leave the node unable to serve a binding made to it (R4). -/
def State.nodeSetBad (s : State) (n : NodeId) (r : NodeRec) (k : String) : Bool :=
  let old := s.cfg.nodes[n]
  let named := s.cfg.points.filter fun pt => pt.node = n
  if k = "role" then
    r.role ≠ old.role && (0 < Settings.timesBound s.cfg n || (old.role = .sensor && !named.isEmpty))
  else if k = "channels" then named.any fun pt => r.channels ≤ pt.point
  else false

/-- The node record is written (R4): a change returns the node as unseen; WRONG_ROLE returns to UNSEEN even without a change. A NODE_SET
that names only its selector, which R2 says changes nothing, does so too: the model's choice (assumption 12). -/
def State.setNodeRec (s : State) (n : NodeId) (r : NodeRec) : State :=
  if r = s.cfg.nodes[n] then
    if (s.nodes[n]).state = .wrongRole then s.modNode n fun e => { e with state := .unseen, miss := 0 } else s
  else (s.modCfg fun g => Settings.withNode g n r).forgetNode n

/-- NODE_SET (R2, R4). -/
def reqNodeSet (args : List Arg) (s : State) : ReqResult :=
  checked (setFault [nodeKey] nodeCols .default args) <|
  withSome "node" (nodeArg args) fun n =>
  let r := applyArgs nodeCols args s.cfg.nodes[n]
  let cross := if r.role ≠ .sensor ∧ r.channels ≠ 1 then some "channels" else none
  s.passes nodeCols args cross (s.nodeSetBad n r) <|
  .done (s.setNodeRec n r) (.ok [])

/-! ## LOOP_GET, LOOP_SET (R5 to R7, R10) -/

/-- LOOP_GET (R5, R10). -/
def reqLoopGet (args : List Arg) (s : State) : ReqResult :=
  checked (badArg [loopKey] args) <|
  withSome "loop" (loopArg args) fun l =>
  .done s (.multi [("loop", .word (loopName l))]
    (fieldLines loopCols s.cfg.loops[l] ++
      [[("fault", .word (if (s.loops[l]).configFault then "CONFIG" else "NONE"))],
       [("check", listVal (((s.loops[l]).check).map CheckItem.name))]]))

/-- Conditions of a LOOP_SET with other records, on the working copy as it would stand (R5, R6, R99). -/
def State.loopSetBad (s : State) (l : LoopId) (r : LoopRec) (k : String) : Bool :=
  let g := Settings.withLoop s.cfg l r
  if k = "pump_a" then !Settings.outputSound g .pump r.pumpA
  else if k = "pump_b" then !Settings.outputSound g .pump r.pumpB
  else if k = "bypass" then !Settings.outputSound g .valve r.bypass
  else if k = "supply_pt" then !Settings.pointSound g r.supplyPt
  else if k = "return_pt" then !Settings.pointSound g r.returnPt
  else if k = "flow_src" then
    (match r.flowSrc with
     | some (.point pt) => !Settings.pointSound g (some pt)
     | _ => false)
  else if k = "in_use" then !r.inUse && !(s.loopCoils l).isEmpty
  else if k = "kw_concurrency" then r.kwConcurrency < (s.units[l]).kwCount
  else false

/-- The frost limits of a loop record. -/
def LoopRec.limits (r : LoopRec) : Temp × Temp × Temp × Temp := (r.freeze, r.watchMargin, r.tripMargin, r.frostHyst)

/-- The rotation timer after a change of rotate_interval (R7, R80). -/
def State.restartRotation (s : State) (l : LoopId) : State := if (s.loops[l]).state = .idle then s else s.startRotation l

/-- The loop record is written, with the changes that do not wait (R7, R80, R87, R99, R115): one event for the coil unit. A
node that is unbound or bound elsewhere keeps its output shadow (assumption 43). -/
def State.setLoopRec (s : State) (l : LoopId) (r : LoopRec) : State :=
  s.oneEvent fun s =>
  let old := s.cfg.loops[l]
  let s1 := s.modCfg fun g => Settings.withLoop g l r
  let s2 := if r.limits = old.limits then s1 else s1.reclassifyLoop l
  let s3 := if r.fanStep = old.fanStep ∧ r.shedSpeed = old.shedSpeed then s2 else s2.refanLoop l .routine
  let s4 := if r.rotateInterval = old.rotateInterval then s3 else s3.restartRotation l
  if r.kwConcurrency = old.kwConcurrency then s4 else s4.serveKw l

/-- The condition between the margins (R5). -/
def LoopRec.marginsSound (r : LoopRec) : Bool := r.tripMargin ≤ r.watchMargin - 10

/-- LOOP_SET (R2, R5 to R7). -/
def reqLoopSet (args : List Arg) (s : State) : ReqResult :=
  checked (setFault [loopKey] loopCols .default args) <|
  withSome "loop" (loopArg args) fun l =>
  let r := applyArgs loopCols args s.cfg.loops[l]
  let cross := if r.marginsSound then none else firstNamed ["watch_margin", "trip_margin"] args
  s.passes loopCols args cross (s.loopSetBad l r) <|
  .done (s.setLoopRec l r) (.ok [])

/-! ## COIL_GET, COIL_SET (R8 to R10) -/

/-- COIL_GET (R8, R10). -/
def reqCoilGet (args : List Arg) (s : State) : ReqResult :=
  checked (badArg [coilKey] args) <|
  withSome "coil" (coilArg args) fun c =>
  .done s (.multi [("coil", .word (coilName c))]
    (fieldLines coilCols s.cfg.coils[c] ++ [[("withdrawn", .yesNo (s.cfg.coils[c]).withdrawn)]]))

/-- Conditions of a COIL_SET with other records (R8, R9). -/
def State.coilSetBad (s : State) (c : CoilId) (r : CoilRec) (k : String) : Bool :=
  let g := Settings.withCoil s.cfg c r
  if k = "loop" then
    (match r.loop with
     | some l => !(s.cfg.loops[l]).inUse
     | none => false)
  else if k = "fan_node" then !Settings.outputSound g .fan r.fanNode
  else if k = "valve_node" then !Settings.outputSound g .valve r.valveNode
  else if k = "outlet_pt" then !Settings.pointSound g r.outletPt
  else if k = "icing_pt" then !Settings.pointSound g r.icingPt
  else false

/-- The conditions between a coil's own fields, with the key named (R8). -/
def coilCross (r : CoilRec) (args : List Arg) : Option String :=
  if r.loop.isSome ∧ r.outletPt = none then some "outlet_pt"
  else if r.fanMin < r.fanMax then none
  else firstNamed ["fan_min", "fan_max"] args

/-- The coil leaves its old roster and joins the end of the new one (R9). -/
def State.moveRoster (s : State) (c : CoilId) (old new : Option LoopId) : State :=
  let s1 := match old with
    | some l => s.setRoster l ((s.cfg.rosters[l]).filter fun d => d ≠ c)
    | none => s
  match new with
  | some l => s1.setRoster l (s1.cfg.rosters[l] ++ [c])
  | none => s1.setOverride c none

/-- A loop's summary is recomputed, where there is a loop. -/
def State.resummariseOpt (s : State) (l : Option LoopId) : State :=
  match l with
  | some k => s.resummarise k
  | none => s

/-- The coil record is written (R8, R9, R87, R114, R133). A node that is unbound or bound elsewhere keeps its output shadow (assumption
43). -/
def State.setCoilRec (s : State) (c : CoilId) (r : CoilRec) : State :=
  let old := s.cfg.coils[c]
  let s1 := s.modCoilRec c fun _ => { r with options := old.options }
  let s2 := if r.loop = old.loop then s1 else s1.moveRoster c old.loop r.loop
  let s3 := s2.setOptions c r.options
  let s4 := if r.fanMin = old.fanMin ∧ r.fanMax = old.fanMax then s3 else s3.refan c .routine
  if r.loop = old.loop ∧ r.outletPt = old.outletPt then s4
  else ((s4.rebindFrost c).resummariseOpt old.loop).resummariseOpt r.loop

/-- COIL_SET (R2, R8, R9). -/
def reqCoilSet (args : List Arg) (s : State) : ReqResult :=
  checked (setFault [coilKey] coilCols .default args) <|
  withSome "coil" (coilArg args) fun c =>
  let r := applyArgs coilCols args s.cfg.coils[c]
  s.passes coilCols args (coilCross r args) (s.coilSetBad c r) <|
  .done (s.setCoilRec c r) (.ok [])

/-! ## Commands -/

def execSiteGet (args : List Arg) (s : State) : Host.Outcome State Fault Refusal := request "SITE_GET" (reqSiteGet args) s
def execNodeGet (args : List Arg) (s : State) : Host.Outcome State Fault Refusal := request "NODE_GET" (reqNodeGet args) s
def execLoopGet (args : List Arg) (s : State) : Host.Outcome State Fault Refusal := request "LOOP_GET" (reqLoopGet args) s
def execCoilGet (args : List Arg) (s : State) : Host.Outcome State Fault Refusal := request "COIL_GET" (reqCoilGet args) s
def execSiteSet (args : List Arg) (s : State) : Host.Outcome State Fault Refusal := request "SITE_SET" (reqSiteSet args) s
def execNodeSet (args : List Arg) (s : State) : Host.Outcome State Fault Refusal := request "NODE_SET" (reqNodeSet args) s
def execLoopSet (args : List Arg) (s : State) : Host.Outcome State Fault Refusal := request "LOOP_SET" (reqLoopSet args) s
def execCoilSet (args : List Arg) (s : State) : Host.Outcome State Fault Refusal := request "COIL_SET" (reqCoilSet args) s

end Sys2Proof.Machine
end

