-- ==== Sys2Proof/Machine/TraceRequests.lean ====
section
/-! DEFINITION. The requests of the trace ring (R177 to R181). -/

namespace Sys2Proof.Machine

def readHalf : String → Option HalfId := findName [.h0, .h1] HalfId.name
def halfKey : KeySpec := .need "half" [.name] (known readHalf)
def halfArg (args : List Arg) : Option HalfId := (argOf args "half").bind readHalf

/-- A half's fill count (R173). -/
def Half.fill (h : Half) : Nat := h.entries.length

def Writer.name : Writer → String
  | .writing _ => "WRITING"
  | .locked _ => "LOCKED"

/-- The states of both halves and of the writer, as TRACE_RELEASE and TRACE_CUT report them (R177, R179); the keys are the
model's (assumption 41). -/
def Trace.stateKeys (t : Trace) : List Field :=
  [("h0", .word t.h0.state.name), ("h1", .word t.h1.state.name), ("writer", .word t.writer.name)]

/-- A half is released (R177): FREE and empty, its serial kept; a lockout ends there with a GAP entry. -/
def Trace.release (t : Trace) (h : HalfId) (now : Nat) : Trace :=
  let t1 := t.setHalf h { t.half h with state := .free, entries := [] }
  match t.writer with
  | .writing _ => t1
  | .locked since =>
    { (t1.startFilling h).append h { t := now, subj := .trace, body := .gap t.missed since } with missed := 0 }

/-- TRACE_RELEASE (R177). -/
def reqTraceRelease (args : List Arg) (s : State) : ReqResult :=
  checked (badArg [halfKey] args) <|
  withSome "half" (halfArg args) fun h =>
  refusedIf ((s.trace.half h).state ≠ .full) (.refused "NOT_FULL" []) <|
  let t := s.trace.release h s.uptime
  .done { s with trace := t } (.ok t.stateKeys)

/-- TRACE_CUT (R179). -/
def reqTraceCut (args : List Arg) (s : State) : ReqResult :=
  checked (badArg [] args) <|
  match s.trace.writer with
  | .locked _ => .refuse (.refused "STATE" [])
  | .writing h =>
    let s1 := s.closeHalf h
    .done s1 (.ok ([("cut", .word h.name), ("fill", .int (s.trace.half h).fill)] ++ s1.trace.stateKeys))

/-- The keys of TRACE_READ (R180). -/
def traceReadKeys : List KeySpec :=
  [halfKey, .need "from" [.int] (intIn 0 255), .may "count" [.int] (intIn 1 16)]

/-- The continuation lines of entries from an index on. -/
def entryLines (from_ : Nat) : List TraceEntry → List (List Field)
  | [] => []
  | e :: es => e.fields from_ :: entryLines (from_ + 1) es

/-- TRACE_READ (R180); the keys of the header are the model's (assumption 41). -/
def reqTraceRead (args : List Arg) (s : State) : ReqResult :=
  checked (badArgOrdered traceReadKeys args) <|
  withSome "half" (halfArg args) fun h =>
  let x := s.trace.half h
  let from_ := (((argOf args "from").bind readInt).getD 0).toNat
  let count := (((argOf args "count").bind readInt).getD 16).toNat
  refusedIf (x.fill ≤ from_) (.badArg "from") <|
  let es := (x.entries.drop from_).take count
  .done s (.multi
    [("half", .word h.name), ("state", .word x.state.name), ("serial", .int x.serial), ("fill", .int x.fill),
     ("from", .int from_), ("count", .int es.length)]
    (entryLines from_ es))

def halfVal (h : Half) : Val := .words [h.state.name, toString h.fill, toString h.serial]

/-- The writer, with its half and index while WRITING (R173, R181). -/
def Trace.writerVal (t : Trace) : Val :=
  match t.writer with
  | .writing h => .words ["WRITING", h.name, toString (t.half h).fill]
  | .locked _ => .word "LOCKED"

def Writer.since : Writer → Option Nat
  | .writing _ => none
  | .locked t => some t

/-- TRACE_STATE (R181). -/
def reqTraceState (args : List Arg) (s : State) : ReqResult :=
  checked (badArg [] args) <|
  .done s (.ok [("h0", halfVal s.trace.h0), ("h1", halfVal s.trace.h1), ("writer", s.trace.writerVal),
    ("since", optNat s.trace.writer.since), ("missed", .int s.trace.missed), ("next", .int s.trace.next)])

/-! ## Commands -/

def execTraceRelease (args : List Arg) (s : State) : Host.Outcome State Fault Refusal :=
  request "TRACE_RELEASE" (reqTraceRelease args) s
def execTraceCut (args : List Arg) (s : State) : Host.Outcome State Fault Refusal := request "TRACE_CUT" (reqTraceCut args) s
def execTraceRead (args : List Arg) (s : State) : Host.Outcome State Fault Refusal := request "TRACE_READ" (reqTraceRead args) s
def execTraceState (args : List Arg) (s : State) : Host.Outcome State Fault Refusal :=
  request "TRACE_STATE" (reqTraceState args) s

end Sys2Proof.Machine
end

