-- ==== Sys2Proof/Machine/Report.lean ====
section
/-! DEFINITION. The notice unit's requests and line, IDENTIFY and STATUS (R189 to R192). -/

namespace Sys2Proof.Machine

def readSource : String → Option Source := findName allSources Source.name
def sourcesKey : KeySpec := .need "sources" [.list, .none] (known (readList readSource))
def sourcesArg (args : List Arg) : List Source := ((argOf args "sources").bind (readList readSource)).getD []

def sourcesVal (xs : List Source) : Val := listVal (xs.map Source.name)

/-- The notice sets as both requests report them (R190), each in the order of the table of sources, which R189 gives for the notice line
alone: the model's choice (assumption 54). -/
def Notice.keys (n : Notice) : List Field := [("enabled", sourcesVal n.enabled), ("pending", sourcesVal n.pending)]

/-- The enabled set is replaced; a source added that is already pending sets the notice-due flag (R190). -/
def Notice.enable (n : Notice) (xs : List Source) : Notice :=
  { n with enabled := sourceSet xs,
           due := n.due || (sourceSet xs).any fun x => !n.enabled.contains x && n.pending.contains x }

/-- Sources are removed from the pending set (R190). -/
def Notice.clear (n : Notice) (xs : List Source) : Notice :=
  { n with pending := n.pending.filter fun x => !xs.contains x }

/-- NOTICE_ENABLE (R190). -/
def reqNoticeEnable (args : List Arg) (s : State) : ReqResult :=
  checked (badArg [sourcesKey] args) <|
  let n := s.notice.enable (sourcesArg args)
  .done { s with notice := n } (.ok n.keys)

/-- NOTICE_CLEAR (R190). -/
def reqNoticeClear (args : List Arg) (s : State) : ReqResult :=
  checked (badArg [sourcesKey] args) <|
  let n := s.notice.clear (sourcesArg args)
  .done { s with notice := n } (.ok n.keys)

/-- The sources a notice line names: pending and enabled, in the order of the table (R189). -/
def Notice.named (n : Notice) : List Source := allSources.filter fun x => n.pending.contains x && n.enabled.contains x

/-- The transmitter has no line to send (R189). -/
def Link.quiet (k : Link) : Bool := k.tx.isEmpty && k.answer.isNone

/-- The due notice line is composed when the transmitter is quiet; no line where no source is then pending and enabled (R189). -/
def State.noticeLine (s : State) : State :=
  if s.notice.due && s.link.quiet then
    let s1 : State := { s with notice := { s.notice with due := false } }
    if s.notice.named.isEmpty then s1 else s1.place (.notice s.notice.named)
  else s

/-- IDENTIFY (R191). -/
def reqIdentify (args : List Arg) (s : State) : ReqResult :=
  checked (badArg [] args) <|
  .done s (.ok [("vendor", .word "BREVOLD"), ("part", .word "PB-416"), ("rev", .word Config.revision),
    ("site", if s.identity.data.site.isEmpty then .none else .word s.identity.data.site),
    ("cabinet", optNat s.identity.data.cabinet), ("identity", .word (if s.identity.set then "SET" else "BLANK"))])

/-- STATUS (R192). -/
def reqStatus (args : List Arg) (s : State) : ReqResult :=
  checked (badArg [] args) <|
  .done s (.ok (
    [("mode", .word s.mode.name), ("store", .word s.store.settings.name),
     ("save", .word (if s.store.saving.isSome then "SAVING" else "IDLE")),
     ("identity", .word (if s.identity.set then "SET" else "BLANK")), ("svc", .word (activeName s.svcActive))] ++
    allLoops.map (fun l => (loopName l, Val.word (s.loops[l]).state.name)) ++
    [("bus", .word (match s.bus.line with
        | .up => "UP"
        | .down _ => "DOWN")),
     ("pending", sourcesVal s.notice.pending), ("enabled", sourcesVal s.notice.enabled),
     ("h0", .word s.trace.h0.state.name), ("h1", .word s.trace.h1.state.name), ("uptime", .int s.uptime)]))

/-! ## Commands -/

def execNoticeEnable (args : List Arg) (s : State) : Host.Outcome State Fault Refusal :=
  request "NOTICE_ENABLE" (reqNoticeEnable args) s
def execNoticeClear (args : List Arg) (s : State) : Host.Outcome State Fault Refusal :=
  request "NOTICE_CLEAR" (reqNoticeClear args) s
def execIdentify (args : List Arg) (s : State) : Host.Outcome State Fault Refusal := request "IDENTIFY" (reqIdentify args) s
def execStatus (args : List Arg) (s : State) : Host.Outcome State Fault Refusal := request "STATUS" (reqStatus args) s

/-- NOTICE_LINE (R189). -/
def execNoticeLine (s : State) : Host.Outcome State Fault Refusal := happen s.noticeLine

end Sys2Proof.Machine
end

