-- ==== Sys2Proof/Machine/HostLine.lean ====
section
/-! DEFINITION. The line receiver and the transmitter (R184, R185, R187), and the names a request line may give (R186, 10.7). -/

namespace Sys2Proof.Machine

/-! ## Request names (10.7) -/

/-- Every request with what its owning block makes of it. -/
def recordRequests : List (String × (List Arg → State → ReqResult)) :=
  [("SITE_GET", reqSiteGet), ("NODE_GET", reqNodeGet), ("LOOP_GET", reqLoopGet), ("COIL_GET", reqCoilGet),
   ("SITE_SET", reqSiteSet), ("NODE_SET", reqNodeSet), ("LOOP_SET", reqLoopSet), ("COIL_SET", reqCoilSet),
   ("MODE_SET", reqModeSet), ("IDENTITY_SET", reqIdentitySet), ("STORE_SAVE", reqStoreSave), ("RESET", reqReset)]

def planRequests : List (String × (List Arg → State → ReqResult)) :=
  [("PLAN_PUT", reqPlanPut), ("PLAN_COMMIT", reqPlanCommit), ("PLAN_RUN", reqPlanRun), ("PLAN_PAUSE", reqPlanPause),
   ("PLAN_SKIP", reqPlanSkip), ("PLAN_CLEAR", reqPlanClear), ("PLAN_GET", reqPlanGet), ("PLAN_STATE", reqPlanState),
   ("PUMP_SWAP", reqPumpSwap), ("PUMP_CLEAR", reqPumpClear), ("LOOP_STATE", reqLoopState)]

def coilRequests : List (String × (List Arg → State → ReqResult)) :=
  [("ROSTER_GET", reqRosterGet), ("COIL_STATE", reqCoilState), ("ROSTER_ORDER", reqRosterOrder),
   ("ROSTER_ROTATE", reqRosterRotate), ("COIL_ADMIT", reqCoilAdmit), ("COIL_RETIRE", reqCoilRetire),
   ("COIL_CLEAR", reqCoilClear), ("FROST_STATE", reqFrostState), ("COIL_OUT", reqCoilOut), ("COIL_IN", reqCoilIn),
   ("COIL_AMEND", reqCoilAmend), ("COIL_LIMITS", reqCoilLimits), ("OVERRIDE_SET", reqOverrideSet),
   ("OVERRIDE_CLEAR", reqOverrideClear), ("COIL_MATCH", reqCoilMatch), ("OVERRIDE_LIST", reqOverrideList)]

def otherRequests : List (String × (List Arg → State → ReqResult)) :=
  [("BUS_PASS", reqBusPass), ("NODE_STATE", reqNodeState), ("BUS_STATE", reqBusState), ("PULSE_SET", reqPulseSet),
   ("INPUT_SET", reqInputSet), ("PULSE_GET", reqPulseGet), ("INPUT_GET", reqInputGet), ("PULSE_STATE", reqPulseState),
   ("INPUT_STATE", reqInputState), ("OUTDOOR_SET", reqOutdoorSet), ("TRACE_RELEASE", reqTraceRelease),
   ("TRACE_CUT", reqTraceCut), ("TRACE_READ", reqTraceRead), ("TRACE_STATE", reqTraceState),
   ("NOTICE_ENABLE", reqNoticeEnable), ("NOTICE_CLEAR", reqNoticeClear), ("IDENTIFY", reqIdentify), ("STATUS", reqStatus)]

def allRequests : List (String × (List Arg → State → ReqResult)) :=
  recordRequests ++ planRequests ++ coilRequests ++ otherRequests

/-- Whether the part knows a request name (R186). -/
def knownName (name : String) : Bool := allRequests.any fun x => x.1 = name

/-- What a request of this name is answered: UNKNOWN where the part does not know the name (R186, R188). -/
def requestBody (name : String) (args : List Arg) : State → ReqResult :=
  match allRequests.find? fun x => x.1 = name with
  | some x => x.2 args
  | none => fun _ => .refuse .unknown

/-! ## The receiver (R184, R185) -/

def State.setReceiver (s : State) (r : Receiver) : State := s.modLink fun k => { k with receiver := r }

/-- A CR immediately before the LF is not part of the line (R184). -/
def stripCR (line : List HostChar) : List HostChar :=
  match line.getLast? with
  | some c => if HostChar.isCR c then line.dropLast else line
  | none => line

/-- A complete line is checked, and taken as a request where it passes (R185, R187). -/
def State.takeLine (s : State) (line : List HostChar) : State :=
  match lineFault line with
  | some cause => s.placeError cause
  | none =>
    let r := readRequest (lineContent line)
    takeRequest r.1 (requestBody r.1 r.2) s

/-- Whether a character makes the line too long: the 201st before any `#`, or the fourth after the first `#` (R184). -/
def tooLong (line : List HostChar) (c : HostChar) : Bool :=
  let content := lineContent line
  if content.length = line.length then Config.lineMax ≤ line.length && !HostChar.isHash c
  else content.length + 4 ≤ line.length

/-- A character is received (R184). -/
def State.charReceived (s : State) (c : HostChar) : State :=
  match s.link.receiver with
  | .idle => if HostChar.isCR c || HostChar.isLF c then s else s.setReceiver (.receiving [c])
  | .discarding => if HostChar.isLF c then s.setReceiver .idle else s
  | .receiving line =>
    if HostChar.isLF c then (s.setReceiver .idle).takeLine (stripCR line)
    else if tooLong line c then (s.setReceiver .discarding).placeError .length
    else s.setReceiver (.receiving (line ++ [c]))

/-- The gap timer expires (R184). -/
def State.gapExpired (s : State) : State :=
  match s.link.receiver with
  | .idle => s
  | .discarding => s.setReceiver .idle
  | .receiving _ => (s.setReceiver .idle).placeError .gap

/-- Between an accepted RESET and the reset, characters are discarded (R21). -/
def State.unlessReset (s : State) (t : State) : State := if s.link.resetPending.isSome then s else t

/-! ## The transmitter (R187) -/

/-- The line in the answer place is sent: what was being sent before it has ended (R187). -/
def State.answerSent (s : State) : State :=
  match s.link.answer with
  | some p => s.modLink fun k => { k with tx := [p], answer := none }
  | none => s

/-- The transmitter ends the placement it is sending; once no reply is left to send, the answer place's line follows (R187). -/
def State.transmit (s : State) : State :=
  s.modLink fun k =>
    match k.tx with
    | [] => k
    | _ :: rest =>
      if rest.any Placement.isReply then { k with tx := rest }
      else { k with tx := rest ++ k.answer.toList, answer := none }

/-! ## Commands -/

/-- HOST_CHAR_RECEIVED (R184). -/
def execHostCharReceived (c : HostChar) (s : State) : Host.Outcome State Fault Refusal :=
  happen (s.unlessReset (s.charReceived c))

/-- HOST_GAP_TIMEOUT (R184). -/
def execHostGapTimeout (s : State) : Host.Outcome State Fault Refusal := happen (s.unlessReset s.gapExpired)

/-- BAD_LINE (R185): a complete line that fails its check; a line that passes is no bad line. -/
def execBadLine (line : List HostChar) (s : State) : Host.Outcome State Fault Refusal :=
  happen (match lineFault line with
    | some cause => s.unlessReset (s.placeError cause)
    | none => s)

/-- NAME_UNKNOWN (R186): a request of a name the part does not know. -/
def execNameUnknown (name : String) (args : List Arg) (s : State) : Host.Outcome State Fault Refusal :=
  if knownName name then happen s else request name (requestBody name args) s

/-- ANSWER_LINE_SENT (R187). -/
def execAnswerLineSent (s : State) : Host.Outcome State Fault Refusal := happen s.answerSent

end Sys2Proof.Machine
end

