-- ==== Sys2Proof/Machine/Dispatch.lean ====
section
/-! DEFINITION. One arm per command, each one call of the command's meaning. -/

namespace Sys2Proof.Machine

def exec (i : Instr) (s : State) : Host.Outcome State Fault Refusal :=
  match i with
  -- starts and resets
  | .powerOn pins => Sys2Proof.Machine.execPowerOn pins s
  | .coldStart => Sys2Proof.Machine.execColdStart s
  | .warmReset => Sys2Proof.Machine.execWarmReset s
  | .erase => Sys2Proof.Machine.execErase s
  -- the host link
  | .hostCharReceived c => Sys2Proof.Machine.execHostCharReceived c s
  | .hostGapTimeout => Sys2Proof.Machine.execHostGapTimeout s
  | .badLine line => Sys2Proof.Machine.execBadLine line s
  | .nameUnknown name args => Sys2Proof.Machine.execNameUnknown name args s
  | .answerLineSent => Sys2Proof.Machine.execAnswerLineSent s
  | .noticeLine => Sys2Proof.Machine.execNoticeLine s
  -- configuration records
  | .siteGet args => Sys2Proof.Machine.execSiteGet args s
  | .nodeGet args => Sys2Proof.Machine.execNodeGet args s
  | .loopGet args => Sys2Proof.Machine.execLoopGet args s
  | .coilGet args => Sys2Proof.Machine.execCoilGet args s
  | .siteSet args => Sys2Proof.Machine.execSiteSet args s
  | .nodeSet args => Sys2Proof.Machine.execNodeSet args s
  | .loopSet args => Sys2Proof.Machine.execLoopSet args s
  | .coilSet args => Sys2Proof.Machine.execCoilSet args s
  -- part mode, identity, store, resets asked for
  | .modeSetRun args => Sys2Proof.Machine.execModeSetRun args s
  | .modeSetCommission args => Sys2Proof.Machine.execModeSetCommission args s
  | .identitySet args => Sys2Proof.Machine.execIdentitySet args s
  | .storeSave args => Sys2Proof.Machine.execStoreSave args s
  | .saveComplete a b => Sys2Proof.Machine.execSaveComplete a b s
  | .resetWarm args => Sys2Proof.Machine.execResetWarm args s
  | .resetCold args => Sys2Proof.Machine.execResetCold args s
  | .resetErase args => Sys2Proof.Machine.execResetErase args s
  -- setpoint plans
  | .planPut args => Sys2Proof.Machine.execPlanPut args s
  | .planGet args => Sys2Proof.Machine.execPlanGet args s
  | .planCommit args => Sys2Proof.Machine.execPlanCommit args s
  | .planRun args => Sys2Proof.Machine.execPlanRun args s
  | .planPause args => Sys2Proof.Machine.execPlanPause args s
  | .planSkip args => Sys2Proof.Machine.execPlanSkip args s
  | .planClear args => Sys2Proof.Machine.execPlanClear args s
  | .planState args => Sys2Proof.Machine.execPlanState args s
  | .segmentEnd l => Sys2Proof.Machine.execSegmentEnd l s
  -- loops and pumps
  | .pumpSwap args => Sys2Proof.Machine.execPumpSwap args s
  | .pumpClear args => Sys2Proof.Machine.execPumpClear args s
  | .loopState args => Sys2Proof.Machine.execLoopState args s
  | .loopTick l => Sys2Proof.Machine.execLoopTick l s
  | .proofTimeout l => Sys2Proof.Machine.execProofTimeout l s
  | .flowlossEnd l => Sys2Proof.Machine.execFlowlossEnd l s
  | .lowflowExpiry l => Sys2Proof.Machine.execLowflowExpiry l s
  | .holdoffExpiry l => Sys2Proof.Machine.execHoldoffExpiry l s
  -- rosters and coils
  | .rosterGet args => Sys2Proof.Machine.execRosterGet args s
  | .rosterOrder args => Sys2Proof.Machine.execRosterOrder args s
  | .rosterRotate args => Sys2Proof.Machine.execRosterRotate args s
  | .rotateTimerExpiry l => Sys2Proof.Machine.execRotateTimerExpiry l s
  | .coilAdmit args => Sys2Proof.Machine.execCoilAdmit args s
  | .coilRetire args => Sys2Proof.Machine.execCoilRetire args s
  | .coilClear args => Sys2Proof.Machine.execCoilClear args s
  | .coilState args => Sys2Proof.Machine.execCoilState args s
  | .strokeTimeout c => Sys2Proof.Machine.execStrokeTimeout c s
  | .stepDwellExpiry c => Sys2Proof.Machine.execStepDwellExpiry c s
  | .admitTimeout c => Sys2Proof.Machine.execAdmitTimeout c s
  | .admitSkipExpiry c => Sys2Proof.Machine.execAdmitSkipExpiry c s
  | .rundownExpiry c => Sys2Proof.Machine.execRundownExpiry c s
  | .keepwarmTimerExpiry c => Sys2Proof.Machine.execKeepwarmTimerExpiry c s
  | .kwDwellExpiry c => Sys2Proof.Machine.execKwDwellExpiry c s
  | .shedTimerExpiry c => Sys2Proof.Machine.execShedTimerExpiry c s
  | .shedCooldownExpiry c => Sys2Proof.Machine.execShedCooldownExpiry c s
  -- frost monitor
  | .frostState args => Sys2Proof.Machine.execFrostState args s
  -- group requests and overrides
  | .coilOut args => Sys2Proof.Machine.execCoilOut args s
  | .coilIn args => Sys2Proof.Machine.execCoilIn args s
  | .coilAmendPut args => Sys2Proof.Machine.execCoilAmendPut args s
  | .coilAmendAnd args => Sys2Proof.Machine.execCoilAmendAnd args s
  | .coilAmendOr args => Sys2Proof.Machine.execCoilAmendOr args s
  | .coilAmendXor args => Sys2Proof.Machine.execCoilAmendXor args s
  | .coilLimits args => Sys2Proof.Machine.execCoilLimits args s
  | .coilMatch args => Sys2Proof.Machine.execCoilMatch args s
  | .overrideSet args => Sys2Proof.Machine.execOverrideSet args s
  | .overrideClear args => Sys2Proof.Machine.execOverrideClear args s
  | .overrideExpiry c => Sys2Proof.Machine.execOverrideExpiry c s
  | .overrideList args => Sys2Proof.Machine.execOverrideList args s
  -- the roof bus
  | .busGrant => Sys2Proof.Machine.execBusGrant s
  | .replyFrame bytes => Sys2Proof.Machine.execReplyFrame bytes s
  | .replyWindowExpiry => Sys2Proof.Machine.execReplyWindowExpiry s
  | .echoMismatch => Sys2Proof.Machine.execEchoMismatch s
  | .busDownExpiry => Sys2Proof.Machine.execBusDownExpiry s
  | .roundStart => Sys2Proof.Machine.execRoundStart s
  | .pointStale n p => Sys2Proof.Machine.execPointStale n p s
  | .busPassRead args => Sys2Proof.Machine.execBusPassRead args s
  | .busPassWrite args => Sys2Proof.Machine.execBusPassWrite args s
  | .busPassIdent args => Sys2Proof.Machine.execBusPassIdent args s
  | .passWaitTimeout => Sys2Proof.Machine.execPassWaitTimeout s
  | .nodeState args => Sys2Proof.Machine.execNodeState args s
  | .busState args => Sys2Proof.Machine.execBusState args s
  -- pulse channels, discrete inputs, outdoor temperature
  | .pulseSet args => Sys2Proof.Machine.execPulseSet args s
  | .pulseGet args => Sys2Proof.Machine.execPulseGet args s
  | .pulseEdge p e micros => Sys2Proof.Machine.execPulseEdge p e micros s
  | .gateEnd p => Sys2Proof.Machine.execGateEnd p s
  | .inputSet args => Sys2Proof.Machine.execInputSet args s
  | .inputGet args => Sys2Proof.Machine.execInputGet args s
  | .inputPinChange pin high => Sys2Proof.Machine.execInputPinChange pin high s
  | .debounceExpiry pin => Sys2Proof.Machine.execDebounceExpiry pin s
  | .outdoorSet args => Sys2Proof.Machine.execOutdoorSet args s
  | .hostOutdoorExpiry => Sys2Proof.Machine.execHostOutdoorExpiry s
  | .pulseState args => Sys2Proof.Machine.execPulseState args s
  | .inputState args => Sys2Proof.Machine.execInputState args s
  -- the trace ring
  | .traceRelease args => Sys2Proof.Machine.execTraceRelease args s
  | .traceCut args => Sys2Proof.Machine.execTraceCut args s
  | .traceRead args => Sys2Proof.Machine.execTraceRead args s
  | .traceState args => Sys2Proof.Machine.execTraceState args s
  -- notices, identity, status
  | .noticeEnable args => Sys2Proof.Machine.execNoticeEnable args s
  | .noticeClear args => Sys2Proof.Machine.execNoticeClear args s
  | .identify args => Sys2Proof.Machine.execIdentify args s
  | .status args => Sys2Proof.Machine.execStatus args s
  -- the part's clock, and a gap inside a roof reply
  | .uptimeSecond => Sys2Proof.Machine.execUptimeSecond s
  | .replyByteGap => Sys2Proof.Machine.execReplyByteGap s

end Sys2Proof.Machine
end

