-- ==== Sys2Proof/Safety.lean ====
section
/-! DEFINITION. The laws the manual says hold at all times, and the words the statements are written in. -/

namespace Sys2Proof

/-! ## How far a command reaches -/

/-- 3: may change the part mode, the uptime, the identity record or the store. 2: may write site, node, loop, channel or input
records, or acts on the trace ring or the notice unit otherwise than by an offer or a raise. 1: neither. -/
def Instr.reach : Instr → Nat
  | .powerOn _ => 3
  | .coldStart => 3
  | .erase => 3
  | .hostCharReceived _ => 3
  | .modeSetRun _ => 3
  | .modeSetCommission _ => 3
  | .identitySet _ => 3
  | .storeSave _ => 3
  | .saveComplete _ _ => 3
  | .uptimeSecond => 3
  | .warmReset => 2
  | .noticeLine => 2
  | .siteSet _ => 2
  | .nodeSet _ => 2
  | .loopSet _ => 2
  | .pulseSet _ => 2
  | .inputSet _ => 2
  | .traceRelease _ => 2
  | .traceCut _ => 2
  | .noticeEnable _ => 2
  | .noticeClear _ => 2
  | _ => 1

/-- The expiries and ticks of the loops and coils: events, no requests. -/
def Instr.plantTimer : Instr → Bool
  | .loopTick _ => true
  | .proofTimeout _ => true
  | .flowlossEnd _ => true
  | .lowflowExpiry _ => true
  | .holdoffExpiry _ => true
  | .rotateTimerExpiry _ => true
  | .strokeTimeout _ => true
  | .stepDwellExpiry _ => true
  | .admitTimeout _ => true
  | .admitSkipExpiry _ => true
  | .rundownExpiry _ => true
  | .keepwarmTimerExpiry _ => true
  | .kwDwellExpiry _ => true
  | .shedTimerExpiry _ => true
  | .shedCooldownExpiry _ => true
  | _ => false

/-! ## The words of requests -/

/-- A pair key=value of a request line. -/
def kv (k v : String) : Arg := ⟨k, some v⟩

/-- The name and the pairs of the line a request command stands for; none for an event (assumption 1). The fixed pair of a row that
is one form of a request is written first. -/
def Instr.request : Instr → Option (String × List Arg)
  | .nameUnknown name a => if Machine.knownName name then none else some (name, a)
  | .siteGet a => some ("SITE_GET", a)
  | .nodeGet a => some ("NODE_GET", a)
  | .loopGet a => some ("LOOP_GET", a)
  | .coilGet a => some ("COIL_GET", a)
  | .siteSet a => some ("SITE_SET", a)
  | .nodeSet a => some ("NODE_SET", a)
  | .loopSet a => some ("LOOP_SET", a)
  | .coilSet a => some ("COIL_SET", a)
  | .identitySet a => some ("IDENTITY_SET", a)
  | .storeSave a => some ("STORE_SAVE", a)
  | .planPut a => some ("PLAN_PUT", a)
  | .planGet a => some ("PLAN_GET", a)
  | .planCommit a => some ("PLAN_COMMIT", a)
  | .planRun a => some ("PLAN_RUN", a)
  | .planPause a => some ("PLAN_PAUSE", a)
  | .planSkip a => some ("PLAN_SKIP", a)
  | .planClear a => some ("PLAN_CLEAR", a)
  | .planState a => some ("PLAN_STATE", a)
  | .pumpSwap a => some ("PUMP_SWAP", a)
  | .pumpClear a => some ("PUMP_CLEAR", a)
  | .loopState a => some ("LOOP_STATE", a)
  | .rosterGet a => some ("ROSTER_GET", a)
  | .rosterOrder a => some ("ROSTER_ORDER", a)
  | .rosterRotate a => some ("ROSTER_ROTATE", a)
  | .coilAdmit a => some ("COIL_ADMIT", a)
  | .coilRetire a => some ("COIL_RETIRE", a)
  | .coilClear a => some ("COIL_CLEAR", a)
  | .coilState a => some ("COIL_STATE", a)
  | .frostState a => some ("FROST_STATE", a)
  | .coilOut a => some ("COIL_OUT", a)
  | .coilIn a => some ("COIL_IN", a)
  | .coilLimits a => some ("COIL_LIMITS", a)
  | .coilMatch a => some ("COIL_MATCH", a)
  | .overrideSet a => some ("OVERRIDE_SET", a)
  | .overrideClear a => some ("OVERRIDE_CLEAR", a)
  | .overrideList a => some ("OVERRIDE_LIST", a)
  | .nodeState a => some ("NODE_STATE", a)
  | .busState a => some ("BUS_STATE", a)
  | .pulseSet a => some ("PULSE_SET", a)
  | .pulseGet a => some ("PULSE_GET", a)
  | .inputSet a => some ("INPUT_SET", a)
  | .inputGet a => some ("INPUT_GET", a)
  | .outdoorSet a => some ("OUTDOOR_SET", a)
  | .pulseState a => some ("PULSE_STATE", a)
  | .inputState a => some ("INPUT_STATE", a)
  | .traceRelease a => some ("TRACE_RELEASE", a)
  | .traceCut a => some ("TRACE_CUT", a)
  | .traceRead a => some ("TRACE_READ", a)
  | .traceState a => some ("TRACE_STATE", a)
  | .noticeEnable a => some ("NOTICE_ENABLE", a)
  | .noticeClear a => some ("NOTICE_CLEAR", a)
  | .identify a => some ("IDENTIFY", a)
  | .status a => some ("STATUS", a)
  | .modeSetRun a => some ("MODE_SET", kv "mode" "RUN" :: a)
  | .modeSetCommission a => some ("MODE_SET", kv "mode" "COMMISSION" :: a)
  | .resetWarm a => some ("RESET", kv "kind" "WARM" :: a)
  | .resetCold a => some ("RESET", kv "kind" "COLD" :: a)
  | .resetErase a => some ("RESET", kv "kind" "ERASE" :: a)
  | .coilAmendPut a => some ("COIL_AMEND", kv "op" "PUT" :: a)
  | .coilAmendAnd a => some ("COIL_AMEND", kv "op" "AND" :: a)
  | .coilAmendOr a => some ("COIL_AMEND", kv "op" "OR" :: a)
  | .coilAmendXor a => some ("COIL_AMEND", kv "op" "XOR" :: a)
  | .busPassRead a => some ("BUS_PASS", kv "kind" "READ" :: a)
  | .busPassWrite a => some ("BUS_PASS", kv "kind" "WRITE" :: a)
  | .busPassIdent a => some ("BUS_PASS", kv "kind" "IDENT" :: a)
  | _ => none

end Sys2Proof

namespace Sys2Proof.Machine

/-! ## The trace ring (R173, R175) -/

/-- One half: at most 256 entries, a serial in range, and nothing in a FREE half. -/
structure HalfLaw (h : Half) : Prop where
  fill   : h.entries.length ≤ Config.halfSize
  serial : h.serial ≤ Config.countMax
  free   : h.state = .free → h.entries = []

/-- The writer against the halves: WRITING in the one FILLING half, which has room, with no count of missed entries; LOCKED with
both halves FULL. -/
def WriterLaw (t : Trace) : Prop :=
  match t.writer with
  | .writing h =>
    (t.half h).state = .filling ∧ (t.half h).entries.length < Config.halfSize ∧ (t.half h.other).state ≠ .filling ∧ t.missed = 0
  | .locked _ => t.h0.state = .full ∧ t.h1.state = .full

/-- The trace ring at all times. -/
structure TraceLaw (t : Trace) : Prop where
  h0     : HalfLaw t.h0
  h1     : HalfLaw t.h1
  next   : 1 ≤ t.next ∧ t.next ≤ Config.countMax
  missed : t.missed ≤ Config.countMax
  writer : WriterLaw t

/-! ## The command queues (R153) -/

/-- An output point appears at most once across the two queues together. -/
def QueueLaw (b : Bus) : Prop := ((b.urgent ++ b.routine).map Entry.node).Nodup

/-! ## The plan rings (R25, R32, R36) -/

/-- Every slot of the live range is filled; HOLDING stands on the last slot, STOPPED before a successor. -/
structure PlanLaw (p : Plan) : Prop where
  filled  : ∀ i : SlotId, p.isLive i = true → ((p.slots)[i]).isSome = true
  holding : p.state = .holding → p.cur = p.last
  stopped : p.state = .stopped → p.cur ≠ p.last

/-! ## The notice unit (R189) -/

/-- Both sets are written in the order of the table, without repeats. -/
def NoticeLaw (n : Notice) : Prop := n.pending.Sublist allSources ∧ n.enabled.Sublist allSources

/-! ## The plant (R11, R77, R86, R88, R99, R103) -/

/-- Each loop's roster holds the coils assigned to the loop, each once (R77). -/
def RosterLaw (g : Settings) : Prop :=
  ∀ l : LoopId, (g.rosters[l]).Nodup ∧ ∀ c : CoilId, c ∈ g.rosters[l] ↔ (g.coils[c]).loop = some l

/-- The role of the node that an owner binds (R6, R8). -/
def Owner.nodeRole : Owner → NodeRole
  | .coilFan _ => .fan
  | .coilValve _ => .valve
  | .pump _ _ => .pump
  | .bypass _ => .valve

/-- The bindings of a configuration: no output node is bound in two places, each has the role its place asks for, and each point
bound is one a SENSOR node offers (R3, R4, R6, R8). -/
structure BindingLaw (g : Settings) : Prop where
  once   : ∀ n : NodeId, Settings.timesBound g n ≤ 1
  roles  : ∀ o n, Settings.boundNode g o = some n → (g.nodes[n]).role = o.nodeRole
  points : ∀ pt ∈ Settings.points g, Settings.pointSound g (some pt) = true

/-- The working copy, the image and an image being written keep the laws of the rosters and the bindings. -/
structure RecordLaws (s : State) : Prop where
  working : RosterLaw s.cfg ∧ BindingLaw s.cfg
  image   : ∀ g, s.store.settings = .valid g → RosterLaw g ∧ BindingLaw g
  saving  : ∀ j, s.store.saving = some j → RosterLaw j.settings ∧ BindingLaw j.settings

/-- In COMMISSION every loop is IDLE with its coil queues, count and permit empty, and every coil is DORMANT (R11, R108). -/
def ModeLaw (s : State) : Prop :=
  s.mode = .commission →
    (∀ l : LoopId, (s.loops[l]).state = .idle ∧ (s.units[l]).kwQueue = [] ∧ (s.units[l]).kwCount = 0 ∧ (s.units[l]).shedQueue = [] ∧
      (s.units[l]).permit = none) ∧
    ∀ c : CoilId, (s.coils[c]).service = .dormant

/-- While the part mode is RUN no coil is DORMANT (R11). -/
def RunLaw (s : State) : Prop := s.mode = .run → ∀ c : CoilId, (s.coils[c]).service ≠ .dormant

/-- The coils of one loop: at most one ADMITTING (R88); the keep-warm queue holds ISOLATED coils of the loop, each once, and the SCHEDULED
cycles number the loop's count, at most its kw_concurrency (R99); a SHEDDING coil holds the permit, and the shed queue holds coils of the
loop (R103). -/
structure LoopCoilLaw (s : State) (l : LoopId) : Prop where
  admitting : s.admittingCount l ≤ 1
  queued    : ∀ c ∈ (s.units[l]).kwQueue, (s.cfg.coils[c]).loop = some l ∧ (s.coils[c]).service = .isolated
  once      : (s.units[l]).kwQueue.Nodup
  cycles    : s.countCoils l (fun x => x = .keepwarm .scheduled) = (s.units[l]).kwCount
  room      : (s.units[l]).kwCount ≤ (s.cfg.loops[l]).kwConcurrency
  shedding  : ∀ c : CoilId, (s.cfg.coils[c]).loop = some l → (s.coils[c]).service = .shedding → (s.units[l]).permit = some c
  shedders  : ∀ c ∈ (s.units[l]).shedQueue, (s.cfg.coils[c]).loop = some l

/-- One coil: the frost state it was given is its frost state (R116); its desired fan speed is 0 unless it is SERVING or SHEDDING, and
while its frost state is TRIP or a PLANT_STOP input is active (R86); its keep-warm timer runs in ISOLATED alone (R98); unassigned, it is
DORMANT or OUT (R81). -/
structure CoilLaw (s : State) (c : CoilId) : Prop where
  given  : (s.coils[c]).frostGiven = (s.frost[c]).state
  still  : (s.coils[c]).desiredFan ≠ 0 → (s.coils[c]).service = .serving ∨ (s.coils[c]).service = .shedding
  trip   : (s.frost[c]).state = .trip → (s.coils[c]).desiredFan = 0
  stop   : s.inputs.plantStop = true → (s.coils[c]).desiredFan = 0
  warmed : (s.coils[c]).kwTimer.isRunning = true → (s.coils[c]).service = .isolated
  loose  : (s.cfg.coils[c]).loop = none → (s.coils[c]).service = .dormant ∨ (s.coils[c]).service = .out

/-- The coil unit at all times. -/
structure CoilLaws (s : State) : Prop where
  loops : ∀ l : LoopId, LoopCoilLaw s l
  coils : ∀ c : CoilId, CoilLaw s c

/-- All four laws of a state. -/
structure Lawful (s : State) : Prop where
  trace  : TraceLaw s.trace
  queue  : QueueLaw s.bus
  plans  : ∀ l : LoopId, PlanLaw s.plans[l]
  notice : NoticeLaw s.notice

/-! ## When a request is taken at once (R187) -/

/-- No RESET is waiting, no reply is being sent, and the deferred-reply slot is empty. -/
structure LinkFree (s : State) : Prop where
  reset : s.link.resetPending = none
  reply : s.link.replying = false
  slot  : s.bus.pass.held = false

/-- The link is free and no COMMAND_LOST report is on its way, as after every command. -/
structure Ready (s : State) : Prop extends LinkFree s where
  lost : s.bus.lost = []

/-- No node is OFFLINE or WRONG_ROLE, so that no command request is lost at once (R153). -/
def AllReachable (s : State) : Prop := ∀ n : NodeId, (s.nodes[n]).state.isLost = false

/-- No report is on its way, and none can arise. -/
structure Calm (s : State) : Prop where
  lost : s.bus.lost = []
  all  : AllReachable s

/-- A one-line reply is placed with the transmitter, behind what it is sending; nothing else changes. -/
def State.answered (s : State) (name : String) (status : Status) (keys : List Field) : State :=
  { s with link := { s.link with tx := s.link.tx ++ [.reply name status keys none] } }

/-- A multi-line reply is placed with the transmitter; nothing else changes. -/
def State.listed (s : State) (name : String) (keys : List Field) (lines : List (List Field)) : State :=
  { s with link := { s.link with tx := s.link.tx ++ [.reply name .ok keys (some lines)] } }

/-- The transmitter holds one line more than before: this reply. -/
def State.replied (s t : State) (name : String) (status : Status) (keys : List Field) : Prop :=
  t.link.tx = s.link.tx ++ [.reply name status keys none]

/-! ## Points read (R141, R149, R150) -/

/-- The command is the last bytes of a GOOD reply with this value to the read in flight of this point, of an ONLINE node. -/
def State.readBy (s : State) (c : Instr) (n : NodeId) (p : Nat) (v : Int) : Prop :=
  ∃ bytes f st, c = .replyFrame bytes ∧ s.bus.flight = some f ∧ f.kind = .read ∧ f.node = n ∧ f.point = p ∧
    7 ≤ (s.bus.rx ++ bytes).length ∧ replyResult f ((s.bus.rx ++ bytes).take 7) = ⟨.good, st, some v⟩ ∧ (s.nodes[n]).state = .online

/-- The command is the moment at which this point, FRESH till then, has grown older than stale_limit. -/
def State.agesBy (s : State) (c : Instr) (n : NodeId) (p : Nat) : Prop :=
  ∃ k : Fin 4, k.val = p ∧ c = .pointStale n k ∧ (((s.nodes[n]).points)[k]).fresh = .fresh ∧
    ∃ t0, (((s.nodes[n]).points)[k]).readAt = some t0 ∧ s.cfg.site.staleLimit < s.uptime - t0

/-- The command is bytes of the reply to a pass-through request on the line. -/
def State.answersPass (s : State) (c : Instr) : Prop :=
  ∃ bytes f r, c = .replyFrame bytes ∧ s.bus.flight = some f ∧ f.src = .pass ∧ s.bus.pass = .inFlight r

/-- The host link as a reading leaves it: the end of a pass-through READ places the deferred reply of BUS_PASS behind what is being sent
(R158), and any other reading leaves the link as it stands. -/
def State.linkAfterReading (s t : State) (c : Instr) : Prop :=
  (¬ s.answersPass c → t.link = s.link) ∧
  (s.answersPass c → ∃ keys, t.link = { s.link with tx := s.link.tx ++ [.reply "BUS_PASS" .ok keys none] })

/-- A point of a SENSOR node that one binding names, and one only. -/
def soleUse (g : Settings) (n : NodeId) (p : Nat) : Prop :=
  (g.nodes[n]).role = .sensor ∧ p < (g.nodes[n]).channels ∧ p < 4 ∧ (g.points.filter fun pt => pt = ⟨n, p⟩).length = 1 ∧
  Settings.timesBound g n = 0

/-- A PUMP node bound in one place, of which no point is bound. -/
def pumpOnly (g : Settings) (n : NodeId) : Prop :=
  (g.nodes[n]).role = .pump ∧ Settings.timesBound g n = 1 ∧ ∀ pt ∈ g.points, pt.node ≠ n

/-! ## Shedding (R103) -/

/-- What has become of a loop's shed queue, the coils that joined it included, since they were offered: while the permit is held they wait;
else the first of them that is eligible takes it and is SHEDDING, and those before it are dropped. -/
def State.queueServed (s t : State) (l : LoopId) (queue : List CoilId) : Prop :=
  let u := s.units[l]
  let others := fun d : CoilId => ∀ c : CoilId, (s.cfg.coils[c]).loop = some l → c ≠ d → t.coils[c] = s.coils[c]
  (∀ d, u.permit = some d → t.units[l] = { u with shedQueue := queue } ∧ others d ∧ t.coils[d] = s.coils[d]) ∧
  (u.permit = none →
    (∀ before d after, queue = before ++ d :: after → (∀ e ∈ before, s.shedEligible e = false) → s.shedEligible d = true →
      t.units[l] = { u with permit := some d, shedQueue := after } ∧ others d ∧
      t.coils[d] = { s.coils[d] with service := .shedding, shed := .running (s.cfg.loops[l]).shedTime, desiredFan := t.fanDemand d }) ∧
    ((∀ e ∈ queue, s.shedEligible e = false) → t.units[l] = { u with shedQueue := [] } ∧
      ∀ c : CoilId, (s.cfg.coils[c]).loop = some l → t.coils[c] = s.coils[c]))

/-! ## Emergency keep-warm requests (R99, R101) -/

/-- A coil that enters ISOLATED makes an emergency request that is acted on: its frost state is WATCH or TRIP, it has KEEPWARM_OK set and
a valve node bound, and its loop is RUNNING or FAILOVER (R101). -/
def State.asks (s : State) (c : CoilId) (l : LoopId) : Prop :=
  ((s.coils[c]).frostGiven = .watch ∨ (s.coils[c]).frostGiven = .trip) ∧
  (s.cfg.coils[c]).options.keepwarmOk = true ∧ (s.cfg.coils[c]).valveNode ≠ none ∧
  ((s.loops[l]).state = .running ∨ (s.loops[l]).state = .failover)

/-- What such a request has made of the coil and of its loop's keep-warm queue, made against this count of scheduled cycles (R99, R101): in
TRIP an EMERGENCY cycle, its valve command URGENT, the coil out of the queue; in WATCH the head of the queue while there is no room, and a
SCHEDULED cycle where there is. -/
def State.requestServed (s t : State) (c : CoilId) (l : LoopId) (count : Nat) : Prop :=
  let r := s.cfg.loops[l]
  let x := s.coils[c]
  let y := t.coils[c]
  let z := t.units[l]
  let warmed := y.kwTimer = .stopped ∧ y.kwDwell = .running r.kwDwell ∧ y.desiredValve = some r.kwPosition ∧ y.settled = false ∧
    y.stroke = .running r.strokeTimeout
  (x.frostGiven = .trip → y.service = .keepwarm .emergency ∧ warmed ∧ c ∉ z.kwQueue ∧ count ≤ z.kwCount ∧
    ∀ n, (s.cfg.coils[c]).valveNode = some n → ⟨n, r.kwPosition, 0⟩ ∈ t.bus.urgent) ∧
  (x.frostGiven = .watch → r.kwConcurrency ≤ count → y.service = .isolated ∧ y.kwTimer = .stopped ∧
    z.kwQueue = c :: (s.units[l]).kwQueue.filter (fun d => d ≠ c) ∧ z.kwCount = count) ∧
  (x.frostGiven = .watch → count < r.kwConcurrency → y.service = .keepwarm .scheduled ∧ warmed ∧ count < z.kwCount)

/-! ## Fan commands (R87) -/

/-- A changed desired fan speed is sent ROUTINE: it waits in that queue, where no URGENT entry stands for the coil's fan node, and no other
place binds the node (R87, R153). -/
def State.fanSent (s t : State) (c : CoilId) : Prop :=
  ∀ n, (s.cfg.coils[c]).fanNode = some n → Settings.timesBound s.cfg n ≤ 1 → (s.coils[c]).desiredFan ≠ t.fanDemand c →
    (∀ e ∈ s.bus.urgent, e.node ≠ n) → ⟨n, t.fanDemand c, 0⟩ ∈ t.bus.routine

/-- The desired fan speed of every coil of a loop is computed anew and a change is sent ROUTINE; a DORMANT coil, and every coil of another
loop, is left as it is (R87). -/
def State.fansAnew (s t : State) (l : LoopId) : Prop :=
  ∀ c : CoilId,
    ((s.cfg.coils[c]).loop = some l → (s.coils[c]).service ≠ .dormant →
      t.coils[c] = { s.coils[c] with desiredFan := t.fanDemand c } ∧ s.fanSent t c) ∧
    ((s.cfg.coils[c]).loop ≠ some l ∨ (s.coils[c]).service = .dormant → t.coils[c] = s.coils[c])

/-! ## Starts of loops (R12, R50 to R52, R81, R83, R98) -/

/-- The loops in use that pass the start check, and those that fail it, in order (R12). -/
def State.loopsStarted (s : State) : List LoopId := (List.finRange 4).filter fun l => (s.cfg.loops[l]).inUse && (s.startCheck l).isEmpty
def State.loopsFailed (s : State) : List LoopId := (List.finRange 4).filter fun l => (s.cfg.loops[l]).inUse && !(s.startCheck l).isEmpty

/-- The regulator of a loop that starts has done its part: the roles swapped first where the duty pump is FAULTED and the standby SOUND, the
duty pump told to run and the standby to stop, the bypass at 100, the fan step 0, flags and counts cleared, the holdoff and tick timers
started, ROUTINE requests placed for the two run points and the bypass; STARTING with the proof timer started, or, where flow is proved at
once, RUNNING (R50 to R52). -/
def State.loopBegun (s t : State) (l : LoopId) : Prop :=
  let r := s.cfg.loops[l]
  let x := s.loops[l]
  let z := t.loops[l]
  let d := if (x.pump x.duty).faulted = true ∧ (x.pump x.duty.other).faulted = false then x.duty.other else x.duty
  z.reason = none ∧ z.duty = d ∧ (z.pump d).run = true ∧ (z.pump d.other).run = false ∧
  (z.pump d).faulted = (x.pump d).faulted ∧ (z.pump d.other).faulted = (x.pump d.other).faulted ∧ z.bypass = 100 ∧ z.fanStep = 0 ∧
  z.blind = false ∧ z.cold = false ∧ z.satWarm = false ∧ z.satCold = false ∧ z.blindCount = 0 ∧ z.sampleCount = 0 ∧
  z.holdoff = .running r.holdoff ∧ z.tick = .running r.tick ∧
  (s.proved l d = true → z.state = .running ∧ z.proof = .stopped ∧ z.lowflow = .stopped) ∧
  (s.proved l d = false → z.state = .starting ∧ z.proof = .running r.prove) ∧
  ∀ (n : NodeId) (v : Int), (r.pumpNode d = some n ∧ v = 1) ∨ (r.pumpNode d.other = some n ∧ v = 0) ∨ (r.bypass = some n ∧ v = 100) →
    (t.nodes[n]).shadow.desired = some v ∧ ((∀ e ∈ s.bus.urgent, e.node ≠ n) → ⟨n, v, 0⟩ ∈ t.bus.routine)

/-- A coil has taken its place as the loops start: unassigned, it is OUT; in a loop that is not started, OUT where withdrawn and ISOLATED
otherwise, with no command and no timer (R12); in a loop that is started it is adopted: OUT where withdrawn; else FAULTED with cause NODE
where a node of its is OFFLINE or WRONG_ROLE; else SERVING with its valve commanded to 100 where the valve reads FRESH and at least 90;
else ISOLATED with its valve commanded to 0 and its keep-warm timer started (R81, R83, R98). That the desired valve position of a coil that
is commanded nothing is 0 where a valve node is bound, and none otherwise, is the model's reading (assumption 30). -/
def State.coilPlaced (s t : State) (c : CoilId) : Prop :=
  let r := s.cfg.coils[c]
  let x := s.coils[c]
  let y := t.coils[c]
  let closed := if r.valveNode = none then none else some 0
  let gone := ∃ n, (r.fanNode = some n ∨ r.valveNode = some n) ∧ (s.nodes[n]).state.isLost = true
  let opened := ∃ n v, r.valveNode = some n ∧ (((s.nodes[n]).points)[(1 : Fin 4)]).fresh = .fresh ∧
    (((s.nodes[n]).points)[(1 : Fin 4)]).value = some v ∧ 90 ≤ v
  (r.loop = none → y = { x with service := .out, desiredValve := closed }) ∧
  ∀ l, r.loop = some l →
    (l ∉ s.loopsStarted → y = { x with service := if r.withdrawn = true then .out else .isolated, desiredValve := closed }) ∧
    (l ∈ s.loopsStarted →
      (r.withdrawn = true → y.service = .out ∧ y.desiredFan = 0 ∧ (r.valveNode ≠ none → y.desiredValve = some 0)) ∧
      (r.withdrawn = false → gone → y.service = .faulted .node ∧ y.desiredFan = 0) ∧
      (r.withdrawn = false → ¬ gone → opened → y.service = .serving ∧ y.desiredValve = some 100 ∧ y.desiredFan = t.fanDemand c) ∧
      (r.withdrawn = false → ¬ gone → ¬ opened → y.service = .isolated ∧ y.desiredFan = 0 ∧
        (r.valveNode ≠ none → y.desiredValve = some 0) ∧
        (r.options.keepwarmOk = true → r.valveNode ≠ none → y.kwTimer = .running (s.cfg.loops[l]).kwInterval) ∧
        (r.options.keepwarmOk = false ∨ r.valveNode = none → y.kwTimer = .stopped)))

/-! ## What a change of loop state does to its coils (R93, R96, R99, R100, R104) -/

/-- A coil's record with its valve commanded to a position and the stroke check started, where a valve node is bound (R84, R85). -/
def State.valveTo (s : State) (c : CoilId) (l : LoopId) (pos : Nat) (x : CoilSt) : CoilSt :=
  if (s.cfg.coils[c]).valveNode = none then x
  else { x with desiredValve := some pos, settled := false, stroke := .running (s.cfg.loops[l]).strokeTimeout }

/-- The record of a coil whose shedding has ended (R104): SERVING, its cooldown started, its fan speed computed anew. -/
def State.shedEnded (s t : State) (c : CoilId) (l : LoopId) : CoilSt :=
  { s.coils[c] with service := .serving, shed := .stopped, cooldown := .running (s.cfg.loops[l]).shedCooldown,
                    desiredFan := t.fanDemand c }

/-- A loop's keep-warm queue has been served (R99): from its head, as many coils as the count left room for are in a SCHEDULED cycle, and
the others wait. -/
def State.kwServed (s t : State) (l : LoopId) : Prop :=
  let r := s.cfg.loops[l]
  let u := s.units[l]
  let room := r.kwConcurrency - u.kwCount
  (t.units[l]).kwQueue = u.kwQueue.drop room ∧ (t.units[l]).kwCount = u.kwCount + (u.kwQueue.take room).length ∧
  (∀ c ∈ u.kwQueue.take room, t.coils[c] = s.valveTo c l r.kwPosition
    { s.coils[c] with service := .keepwarm .scheduled, kwTimer := .stopped, kwDwell := .running r.kwDwell }) ∧
  ∀ c ∈ u.kwQueue.drop room, t.coils[c] = s.coils[c]

/-- What a coil is once its loop has entered FAILOVER, RUNNING, or the one and at once the other: FAILOVER ends shedding and pauses the
timers of an admission; RUNNING resumes them, the dwell only where the admission is not HELD, and closes a retirement whose rundown has
expired and waits; any other coil stays as it is (R93, R96, R104). -/
def State.coilFollowing (s t : State) (l : LoopId) (failover running : Bool) (c : CoilId) : CoilSt :=
  let x := s.coils[c]
  let paused := fun y : Timer => if failover then y.pause else y
  let resumed := fun y : Timer => if running then y.resume else y
  match x.service with
  | .shedding => if failover then s.shedEnded t c l else x
  | .admitting _ _ held =>
    { x with admission := resumed (paused x.admission), dwell := if held then paused x.dwell else resumed (paused x.dwell) }
  | .retiring .rundown o =>
    if running ∧ x.rundown = .expiredWaiting then s.valveTo c l 0 { x with service := .retiring .closing o, rundown := .stopped } else x
  | _ => x

/-- What such an entry has done to the coils of the loop: each as above, but for those that waited for a cycle, whose queue is served; at
FAILOVER the shed queue is emptied, and a coil whose shedding ends gives its permit back and has its fan speed sent ROUTINE (R93, R96, R99,
R104). -/
def State.coilsFollow (s t : State) (l : LoopId) (failover running : Bool) : Prop :=
  s.kwServed t l ∧ (failover = true → (t.units[l]).shedQueue = []) ∧ ∀ c : CoilId, (s.cfg.coils[c]).loop = some l →
    (c ∉ (s.units[l]).kwQueue → t.coils[c] = s.coilFollowing t l failover running c) ∧
    (failover = true → (s.coils[c]).service = .shedding → s.fanSent t c ∧ (t.units[l]).permit ≠ some c)

/-- What a coil is once its loop has entered FLOWLOSS: shedding ends, an admission aborts and a cycle ends into ISOLATED with the valve
commanded to 0; each such coil, and one that waited for a cycle, starts its keep-warm timer where it has KEEPWARM_OK set and a valve node
bound; fan speeds are computed anew (R59, R93, R98 to R100, R104). -/
def State.coilAtFlowloss (s t : State) (l : LoopId) (c : CoilId) : CoilSt :=
  let x := s.coils[c]
  let b := s.cfg.coils[c]
  let anew := { x with desiredFan := t.fanDemand c }
  let timed := { anew with kwTimer := if b.options.keepwarmOk = true ∧ b.valveNode ≠ none then .running (s.cfg.loops[l]).kwInterval
                                      else .stopped }
  match x.service with
  | .dormant => x
  | .shedding => s.shedEnded t c l
  | .admitting _ _ _ => s.valveTo c l 0 { timed with service := .isolated, admission := .stopped, dwell := .stopped, admitRef := none }
  | .keepwarm _ => s.valveTo c l 0 { timed with service := .isolated, kwDwell := .stopped }
  | .isolated => if c ∈ (s.units[l]).kwQueue then timed else anew
  | _ => anew

/-- What that entry has done to the coils of the loop: each as above, both queues and the count of cycles empty; a closing command and a
changed fan speed are sent URGENT; an abort restarts the holdoff and raises COIL (R69, R71, R93, R99, R100, R104). -/
def State.coilsAtFlowloss (s t : State) (l : LoopId) : Prop :=
  let u := t.units[l]
  u.kwQueue = [] ∧ u.shedQueue = [] ∧ u.kwCount = 0 ∧ ∀ c : CoilId, (s.cfg.coils[c]).loop = some l →
    let x := s.coils[c]
    let admitted := x.service.isAdmitting = true
    t.coils[c] = s.coilAtFlowloss t l c ∧ (x.service = .shedding → u.permit ≠ some c) ∧
    (admitted → (t.loops[l]).holdoff = .running (s.cfg.loops[l]).holdoff ∧ Source.coil ∈ t.notice.pending) ∧
    (admitted ∨ x.service = .keepwarm .scheduled ∨ x.service = .keepwarm .emergency → ∀ n, (s.cfg.coils[c]).valveNode = some n →
      Settings.timesBound s.cfg n ≤ 1 → ⟨n, 0, 0⟩ ∈ t.bus.urgent) ∧
    ∀ n, (s.cfg.coils[c]).fanNode = some n → Settings.timesBound s.cfg n ≤ 1 → x.service ≠ .dormant → x.desiredFan ≠ t.fanDemand c →
      ⟨n, t.fanDemand c, 0⟩ ∈ t.bus.urgent

/-! ## Pump faults (R52, R53, R56, R57, R59) -/

/-- The duty pump has failed with a SOUND standby: FAILOVER for FAULT, the standby told to run and under proof, the old duty pump off (R52,
R53, R56). -/
def State.failedOver (s t : State) (l : LoopId) : Prop :=
  let d := (s.loops[l]).duty
  let z := t.loops[l]
  z.state = .failover ∧ z.reason = some .fault ∧ z.duty = d ∧ (z.pump d).faulted = true ∧ (z.pump d).run = false ∧
  (z.pump d.other).run = true ∧ (z.pump d.other).faulted = false ∧ z.proof = .running (s.cfg.loops[l]).prove ∧ z.lowflow = .stopped ∧
  (LoopCoilLaw s l → s.coilsFollow t l true false)

/-- The same with flow proved for the standby at that moment: RUNNING on it in the same event (R50, R56). -/
def State.failedOverAtOnce (s t : State) (l : LoopId) : Prop :=
  let d := (s.loops[l]).duty
  let z := t.loops[l]
  z.state = .running ∧ z.reason = none ∧ z.duty = d.other ∧ (z.pump d).faulted = true ∧ (z.pump d).run = false ∧
  (z.pump d.other).run = true ∧ (z.pump d.other).faulted = false ∧ z.proof = .stopped ∧ z.lowflow = .stopped ∧
  (LoopCoilLaw s l → s.coilsFollow t l true true)

/-- The pump under proof has failed with no other to take its place: FLOWLOSS, both pumps told to run, the fan step 0, PUMP raised; the
proof timer stands as given (R52, R53, R56, R59). -/
def State.flowLost (s t : State) (l : LoopId) (proof : Timer) : Prop :=
  let z := t.loops[l]
  z.state = .flowloss ∧ z.reason = none ∧ z.duty = (s.loops[l]).duty ∧ z.pumpA.run = true ∧ z.pumpB.run = true ∧ z.fanStep = 0 ∧
  z.proof = proof ∧ z.lowflow = .stopped ∧ Source.pump ∈ t.notice.pending ∧ (LoopCoilLaw s l → s.coilsAtFlowloss t l)

/-- The candidate of a planned swap has failed: it is FAULTED and off, and the loop is RUNNING as before (R57). -/
def State.swapFailed (s t : State) (l : LoopId) : Prop :=
  let d := (s.loops[l]).duty
  let z := t.loops[l]
  z.state = .running ∧ z.reason = none ∧ z.duty = d ∧ (z.pump d.other).faulted = true ∧ (z.pump d.other).run = false ∧
  (z.pump d).run = ((s.loops[l]).pump d).run ∧ z.proof = .stopped ∧ z.lowflow = .stopped ∧
  ((((s.loops[l]).pump d.other).faulted = false → Source.pump ∈ t.notice.pending)) ∧
  (LoopCoilLaw s l → s.coilsFollow t l false true)

/-! ## Coil faults (R105) -/

/-- The states in which a coil takes a fault: ISOLATED, KEEPWARM, ADMITTING, SERVING, SHEDDING, RETIRING (R105). -/
def Service.takesFault : Service → Prop
  | .dormant => False
  | .out => False
  | .faulted _ => False
  | _ => True

/-- A coil has become FAULTED (R105): its fan 0, no new valve command, its timers stopped, its places in the queues and the permit left,
COIL raised. -/
def State.coilFaulted (s t : State) (c : CoilId) (l : LoopId) (cause : FaultCause) : Prop :=
  let y := t.coils[c]
  y.service = .faulted cause ∧ y.desiredFan = 0 ∧ y.desiredValve = (s.coils[c]).desiredValve ∧ y.stroke = .stopped ∧
  y.dwell = .stopped ∧ y.admission = .stopped ∧ y.rundown = .stopped ∧ y.kwTimer = .stopped ∧ y.kwDwell = .stopped ∧ y.shed = .stopped ∧
  c ∉ (t.units[l]).kwQueue ∧ c ∉ (t.units[l]).shedQueue ∧ (t.units[l]).permit ≠ some c ∧ Source.coil ∈ t.notice.pending

/-! ## The first pass of a request (R2, R186) -/

/-- A pair has the form its line asks for, after the pairs before it: it has its `=`, its key has not stood before it, and its value is
written in a form of its key where the request takes that key (R186). -/
def pairFormed (specs : List KeySpec) (before : List Arg) (a : Arg) : Prop :=
  ∃ v, a.val = some v ∧ (∀ b ∈ before, b.key ≠ a.key) ∧ ∀ x, specOf specs a.key = some x → ∃ f ∈ x.forms, f.accepts v = true

/-- Every pair of a line has the form its line asks for. -/
def lineFormed (specs : List KeySpec) (args : List Arg) : Prop :=
  ∀ before a after, args = before ++ a :: after → pairFormed specs before a

/-- The request takes the key of the pair, and the key takes its value. -/
def pairInRange (specs : List KeySpec) (a : Arg) : Prop :=
  ∃ x v, specOf specs a.key = some x ∧ a.val = some v ∧ x.ok v = true

/-- The key that the first pass names, none where the request passes it. Form is checked over the whole line first (R186), and names the
first pair that has not its form; then the first pair whose key is not taken or whose value is out of range is named (R2); and last the
first key that the request must name and does not. That missing keys come last is the model's choice (assumption 7). -/
structure FirstPass (specs : List KeySpec) (args : List Arg) (fault : Option String) : Prop where
  form    : ∀ before a after, args = before ++ a :: after → lineFormed specs before → ¬ pairFormed specs before a → fault = some a.key
  range   : lineFormed specs args → ∀ before a after, args = before ++ a :: after → (∀ b ∈ before, pairInRange specs b) →
    ¬ pairInRange specs a → fault = some a.key
  missing : lineFormed specs args → (∀ a ∈ args, pairInRange specs a) → ∀ before x after, specs = before ++ x :: after →
    (∀ y ∈ before, y.required = true → hasKey args y.key = true) → x.required = true → hasKey args x.key = false → fault = some x.key
  passes  : lineFormed specs args → (∀ a ∈ args, pairInRange specs a) → (∀ x ∈ specs, x.required = true → hasKey args x.key = true) →
    fault = none

/-! ## Records (R2) -/

/-- A write request gives each field it names the value it names, and keeps every other field. -/
def FieldsWritten {α : Type} (cols : List (Col α)) : Prop :=
  ∀ (args : List Arg) (r : α), (args.map Arg.key).Nodup →
    (∀ f ∈ cols, hasKey args f.key = false → f.get (applyArgs cols args r) = f.get r) ∧
    ∀ f ∈ cols, ∀ v r', ⟨f.key, some v⟩ ∈ args → f.put r v = some r' → f.get (applyArgs cols args r) = f.get r'

/-- A field of this key has these forms, and takes a value as means reads it: where means reads the value, the field holds what it reads,
and otherwise the value is not taken (R2). -/
def FieldTakes {α : Type} (cols : List (Col α)) (key : String) (forms : List Form) (means : String → Option Val) : Prop :=
  ∀ f ∈ cols, f.key = key → f.forms = forms ∧ ∀ (r : α) (v : String),
    match means v with
    | some x => ∃ r', f.put r v = some r' ∧ f.get r' = x
    | none => f.put r v = none

/-- An integer from lo to hi. -/
def intFrom (lo hi : Int) (v : String) : Option Val :=
  (readInt v).bind fun n => if lo ≤ n ∧ n ≤ hi then some (.int n) else none

/-- A temperature from lo to hi, in tenths. -/
def tempFrom (lo hi : Temp) (v : String) : Option Val :=
  (readTemp v).bind fun n => if lo ≤ n ∧ n ≤ hi then some (.temp n) else none

/-- 0, or what means reads. -/
def offOr (means : String → Option Val) (v : String) : Option Val := if readInt v = some 0 then some (.int 0) else means v

/-- One of these names. -/
def oneOf (names : List String) (v : String) : Option Val := if v ∈ names then some (.word v) else none

/-- The word none, or what means reads. -/
def orNone (means : String → Option Val) (v : String) : Option Val := if v = "none" then some .none else means v

/-- yes or no. -/
def yesOrNo (v : String) : Option Val := if v = "yes" then some (.yesNo true) else if v = "no" then some (.yesNo false) else none

/-- A node address, N1 to N31. -/
def aNode : String → Option Val := oneOf ((List.finRange 31).map nodeName)

/-- A node point. -/
def aPoint (v : String) : Option Val := (readPoint v).map fun pt => .word (pointName pt.node pt.point)

/-- A set drawn from the three options, none for the empty one. -/
def someOptions (v : String) : Option Val :=
  let names := ["SHED_OK", "KEEPWARM_OK", "REVERSE_OK"]
  let given := readWords v
  if ∀ w ∈ given, w ∈ names then some (listVal (names.filter fun w => w ∈ given)) else none

/-- A write request that names these keys passes its tiers and its mode: a SERVICE or binding key only with SVC active, a binding key only
in COMMISSION (R1). -/
abbrev State.mayWrite {α : Type} (s : State) (cols : List (Col α)) (args : List Arg) : Prop :=
  (s.inputs.svc.debounced = false ∨ ∀ b ∈ args, tierOf cols b = .operate) ∧
  (s.mode = .commission ∨ ∀ b ∈ args, tierOf cols b ≠ .binding)

/-- A point of a SENSOR node, below its channel count (R3, R6). -/
abbrev servesPoint (g : Settings) (pt : PointRef) : Prop :=
  (g.nodes[pt.node]).role = .sensor ∧ pt.point < (g.nodes[pt.node]).channels

/-- A node of this role that is not bound as an output node in two places (R6). -/
def servesOutput (g : Settings) (role : NodeRole) (n : NodeId) : Prop :=
  (g.nodes[n]).role = role ∧ ∀ o o' : Owner, Settings.boundNode g o = some n → Settings.boundNode g o' = some n → o = o'

/-- A SITE_SET that would leave this record is refused at the key: the outdoor point it names is not one a SENSOR node offers (R3). -/
def State.siteRefuses (s : State) (r : SiteRec) (k : String) : Prop :=
  k = "outdoor_pt" ∧ ∃ pt, r.outdoorPt = some pt ∧ ¬ servesPoint s.cfg pt

/-- A NODE_SET that would leave this record is refused at the key: the node would no longer serve a binding made to it (R4). -/
def State.nodeRefuses (s : State) (n : NodeId) (r : NodeRec) (k : String) : Prop :=
  (k = "role" ∧ r.role ≠ (s.cfg.nodes[n]).role ∧ ((∃ o, Settings.boundNode s.cfg o = some n) ∨
    ((s.cfg.nodes[n]).role = .sensor ∧ ∃ pt ∈ s.cfg.points, pt.node = n))) ∨
  (k = "channels" ∧ ∃ pt ∈ s.cfg.points, pt.node = n ∧ r.channels ≤ pt.point)

/-- A LOOP_SET that would leave this record is refused at the key: a binding that no such node serves, a loop taken out of use while a coil
is assigned to it, or fewer cycles at a time than are SCHEDULED now (R6, R99). -/
def State.loopRefuses (s : State) (l : LoopId) (r : LoopRec) (k : String) : Prop :=
  let g := { s.cfg with loops := s.cfg.loops.set l r }
  (k = "pump_a" ∧ ∃ n, r.pumpA = some n ∧ ¬ servesOutput g .pump n) ∨
  (k = "pump_b" ∧ ∃ n, r.pumpB = some n ∧ ¬ servesOutput g .pump n) ∨
  (k = "bypass" ∧ ∃ n, r.bypass = some n ∧ ¬ servesOutput g .valve n) ∨
  (k = "supply_pt" ∧ ∃ pt, r.supplyPt = some pt ∧ ¬ servesPoint g pt) ∨
  (k = "return_pt" ∧ ∃ pt, r.returnPt = some pt ∧ ¬ servesPoint g pt) ∨
  (k = "flow_src" ∧ ∃ pt, r.flowSrc = some (.point pt) ∧ ¬ servesPoint g pt) ∨
  (k = "in_use" ∧ r.inUse = false ∧ ∃ c : CoilId, (s.cfg.coils[c]).loop = some l) ∨
  (k = "kw_concurrency" ∧ r.kwConcurrency < (s.units[l]).kwCount)

/-- A COIL_SET that would leave this record is refused at the key: a loop that is not in use, or a binding that no such node serves (R8,
R9). -/
def State.coilRefuses (s : State) (c : CoilId) (r : CoilRec) (k : String) : Prop :=
  let g := { s.cfg with coils := s.cfg.coils.set c r }
  (k = "loop" ∧ ∃ l, r.loop = some l ∧ (s.cfg.loops[l]).inUse = false) ∨
  (k = "fan_node" ∧ ∃ n, r.fanNode = some n ∧ ¬ servesOutput g .fan n) ∨
  (k = "valve_node" ∧ ∃ n, r.valveNode = some n ∧ ¬ servesOutput g .valve n) ∨
  (k = "outlet_pt" ∧ ∃ pt, r.outletPt = some pt ∧ ¬ servesPoint g pt) ∨
  (k = "icing_pt" ∧ ∃ pt, r.icingPt = some pt ∧ ¬ servesPoint g pt)

/-- A PULSE_SET that would leave this record is refused at the key: a mode other than WIDTH for the site's outdoor_pulse (R162). -/
def State.chanRefuses (s : State) (p : ChanId) (r : ChanRec) (k : String) : Prop :=
  k = "mode" ∧ s.cfg.site.outdoorPulse = some p ∧ r.mode ≠ .width

/-- The key is that of the first pair of a line at which the request is refused (R2). -/
def firstRefused (refuses : String → Prop) (args : List Arg) (k : String) : Prop :=
  ∃ before a after, args = before ++ a :: after ∧ (∀ b ∈ before, ¬ refuses b.key) ∧ refuses a.key ∧ a.key = k

/-- The keys of the fields of one tier, in the order of the rule. -/
def keysOf {α : Type} (cols : List (Col α)) (t : Tier) : List String := (cols.filter fun f => f.tier = t).map Col.key

/-! ## Plans (R33 to R38) -/

/-- Elapsed as a pause freezes it: as it stands, or one second below the end of the segment at CUR where it has reached that end and the end
has not been taken (R33, R38, assumption 2). -/
def Plan.frozenElapsed (p : Plan) : Nat :=
  match (p.slots)[p.cur] with
  | some g => if g.duration ≠ 0 ∧ g.duration * 60 ≤ p.elapsed then g.duration * 60 - 1 else p.elapsed
  | none => p.elapsed

/-- The verdict on a segment against the loop as it stands: TARGET where its target is not more than 1.0 above the floor, else COILS where
the coils assigned to the loop and not withdrawn are fewer than its min_coils, else PASS (R34). -/
def State.verdictOf (s : State) (l : LoopId) (g : Segment) : Verdict :=
  if g.target ≤ (s.cfg.loops[l]).floor + 10 then .target
  else if ((List.finRange 16).filter fun c => (s.cfg.coils[c]).loop = some l ∧ (s.cfg.coils[c]).withdrawn = false).length < g.minCoils
    then .coils
  else .pass

/-- The verdict on a slot; an unfilled slot fails nothing. -/
def State.slotVerdict (s : State) (l : LoopId) (p : Plan) (i : SlotId) : Verdict :=
  match (p.slots)[i] with
  | some g => s.verdictOf l g
  | none => .pass

/-- A plan after the check ahead on the successor of CUR (R35). -/
def State.aheadOf (s : State) (l : LoopId) (p : Plan) : Plan :=
  if p.cur = p.last then { p with verdict := .none }
  else { p with prep := p.cur + 1, verdict := s.slotVerdict l p (p.cur + 1) }

/-- A plan after a segment end with a successor (R31, R36): STOPPED where the successor fails its check; else advanced onto it in the
state after, its finished slot unfilled, elapsed 0, its ramp from the target in force, and the next successor checked ahead. -/
def State.endedPlan (s : State) (l : LoopId) (after : PlanState) (p : Plan) : Plan :=
  let v := s.slotVerdict l p (p.cur + 1)
  let q := { p with prep := p.cur + 1, verdict := v }
  if v = .pass then
    s.aheadOf l { q with slots := q.slots.set p.cur none, state := after, cur := p.cur + 1, elapsed := 0,
                         rampStart := some (s.effective l).target }
  else { q with state := .stopped }

/-- A failing prepare check is noted (R35, R36): PREPARE with the slot, the reason and the stage, and PLAN raised. The keys are the model's
(assumption 15). -/
def State.checkNoted (s : State) (l : LoopId) (i : SlotId) (v : Verdict) (stage : String) : State :=
  if v = .pass then s
  else (s.event (.loop l) .prepare [("slot", .int i.val), ("reason", .word v.name), ("stage", .word stage)]).raise .plan

/-- What the check ahead on a plan's successor notes (R35). -/
def State.aheadNoted (s : State) (l : LoopId) (p : Plan) : State :=
  if p.cur = p.last then s else s.checkNoted l (p.cur + 1) (s.slotVerdict l p (p.cur + 1)) "AHEAD"

/-- The segment at CUR asks for a notice at its end (R31). -/
def Plan.asksNotice (p : Plan) : Bool := (((p.slots)[p.cur]).map Segment.notify).getD false

/-- What a segment end with a successor notes (R31, R35, R36): a failing successor; else SEGMENT with the finished slot, the new CUR and
the cause, PLAN raised for notify but not at a COMMIT (R29), then the check ahead. The keys are the model's (assumption 15). -/
def State.endNoted (s : State) (l : LoopId) (cause : String) (p : Plan) : State :=
  let v := s.slotVerdict l p (p.cur + 1)
  let s1 := s.event (.loop l) .segment [("slot", .int p.cur.val), ("cur", .int (p.cur + 1).val), ("cause", .word cause)]
  let s2 := if p.asksNotice && cause != "COMMIT" then s1.raise .plan else s1
  if v = .pass then s2.aheadNoted l { p with slots := p.slots.set p.cur none, cur := p.cur + 1 }
  else s.checkNoted l (p.cur + 1) v "END"

/-- The trace ring and the notice unit have come to stand as they do in another state. -/
def State.notedAs (t n : State) : Prop := t.trace = n.trace ∧ t.notice = n.notice

/-! ## The outdoor selection (R169) -/

/-- A state that has noted what another has, and then the change of the outdoor source from this one's, where there is one (R169): INPUT
with the old and new sources and the selected value or NONE. The keys are the model's (assumption 15). -/
def State.sourceNoted (s noted : State) (new : Outdoor) : State :=
  let old := s.inputs.outdoor
  if new.sourceName = old.sourceName then noted
  else noted.event .outdoor .input [("old", .word old.sourceName), ("new", .word new.sourceName), ("value", match new with
    | .point v => .temp v
    | .pulse v => .temp v
    | .host v => .temp v
    | .unknown => .unknown)]

/-- The keys with which a plan is reported after a commit or a skip (R28, R29, R39). -/
def planReport (p : Plan) : List Field :=
  [("state", .word p.state.name), ("cur", .int p.cur.val), ("last", .int p.last.val), ("prep", .int p.prep.val),
   ("verdict", .word p.verdict.name)]

end Sys2Proof.Machine
end

