-- ==== Sys2Proof/Certificates/Slice0/Obligations.lean ====
section
/-! DEFINITION. The statements for the provers. Each name says what is stated; the docstring names the rules. -/

open Sys2Proof Sys2Proof.Machine

/-! ## The queue of commands, the laws, and how far a command reaches -/

/-- One step takes the command at the front of the queue and performs it on the state with the queue's rest. -/
def Obligations.StepTakesTheFrontCommand : Prop :=
  ∀ (c : Instr) (rest : List Instr) (s : State), s.pending = c :: rest → step s = exec c { s with pending := rest }

/-- No command stops the part; each leaves the queue of waiting commands as it is, and no COMMAND_LOST report undelivered
(assumption 5). -/
def Obligations.EveryCommandAnswersNext : Prop :=
  ∀ (c : Instr) (s : State), ∃ t, exec c s = .next t ∧ t.pending = s.pending ∧ t.bus.lost = []

/-- The trace ring keeps its form on every step: at most 256 entries in a half, none in a FREE one, one FILLING half with room while
WRITING, both FULL while LOCKED, serials in range (R173, R175, R176).
On every step the notice sets stay sets of sources in the order of the table (R189). -/
def Obligations.EveryStepKeepsTheTraceAndNoticeLaws : Prop :=
  (∀ s t : State, TraceLaw s.trace → step s = .next t → TraceLaw t.trace) ∧
  (∀ s t : State, NoticeLaw s.notice → step s = .next t → NoticeLaw t.notice)

/-- On every step an output point appears at most once across the two command queues (R153).
On every step each plan's live slots stay filled, HOLDING stands on the last slot, and STOPPED before a successor (R25, R32, R36). -/
def Obligations.EveryStepKeepsTheQueueAndPlanLaws : Prop :=
  (∀ s t : State, QueueLaw s.bus → step s = .next t → QueueLaw t.bus) ∧
  (∀ s t : State, (∀ l : LoopId, PlanLaw s.plans[l]) → step s = .next t → ∀ l : LoopId, PlanLaw t.plans[l])

/-- On every step each roster holds the coils assigned to its loop, each once, in the working copy, in the image and in an image being
written (R77); and in these no output node is bound in two places, each bound node has the role its place asks for, and each bound point is
one a SENSOR node offers (R3, R4, R6, R8).
On every step the part in COMMISSION has every loop IDLE and every coil DORMANT, with the coil queues, counts and permits empty (R11, R13,
R108).
On every step of a part whose records keep their laws, no coil of the part in RUN is DORMANT (R11, R12, R20). -/
def Obligations.EveryStepKeepsTheRecordAndModeLaws : Prop :=
  (∀ s t : State, RecordLaws s → step s = .next t → RecordLaws t) ∧
  (∀ s t : State, ModeLaw s → step s = .next t → ModeLaw t) ∧
  (∀ s t : State, RecordLaws s → RunLaw s → step s = .next t → RunLaw t)

/-- On every step of a part that keeps the laws of its records and of COMMISSION (R11, R77): each loop has at most one coil ADMITTING
(R88); its keep-warm queue holds ISOLATED coils of the loop, each once, and its SCHEDULED cycles number its count, at most kw_concurrency
(R99); a SHEDDING coil holds the permit, so that there is at most one, and the shed queue holds coils of the loop (R103). Each coil's
desired fan speed is 0 unless it is SERVING or SHEDDING, and in TRIP and under PLANT_STOP (R86); it acts on the frost state it has (R116);
its keep-warm timer runs in ISOLATED alone (R98); unassigned, it is DORMANT or OUT (R81). -/
def Obligations.EveryStepKeepsTheCoilLaws : Prop :=
  ∀ s t : State, RecordLaws s → ModeLaw s → CoilLaws s → step s = .next t → CoilLaws t

/-- The laws hold after reset, those of the plant too; no command waits, no report is on its way, and the link takes a request at once. -/
def Obligations.TheLawsHoldAtReset : Prop :=
  Lawful State.reset ∧ RecordLaws State.reset ∧ ModeLaw State.reset ∧ RunLaw State.reset ∧ CoilLaws State.reset ∧ Ready State.reset ∧
  State.reset.pending = []

/-- The part mode, the uptime, the identity record and the store change only by a command of reach 3; the site, node, loop, channel and
input records only by one of reach 2 or 3. Instr.reach lists them by name; all other commands are of reach 1.
The expiries and ticks of loops and coils leave alone the host link, the plans, the override table, the frost records, the input unit,
the coil records, what the master knows of each node and point, and the roof line, its transaction, the slot and the poller. -/
def Obligations.CommandsKeepWhatTheyDoNotReach : Prop :=
  (∀ (c : Instr) (s t : State), exec c s = .next t →
     (c.reach ≤ 2 → t.mode = s.mode ∧ t.uptime = s.uptime ∧ t.identity = s.identity ∧ t.store = s.store) ∧
     (c.reach ≤ 1 → t.cfg.site = s.cfg.site ∧ t.cfg.nodes = s.cfg.nodes ∧ t.cfg.loops = s.cfg.loops ∧
       t.cfg.chans = s.cfg.chans ∧ t.cfg.inputs = s.cfg.inputs)) ∧
  (∀ (c : Instr) (s t : State), c.plantTimer = true → exec c s = .next t →
     t.link = s.link ∧ t.plans = s.plans ∧ t.overrides = s.overrides ∧ t.frost = s.frost ∧ t.inputs = s.inputs ∧
     t.cfg.coils = s.cfg.coils ∧
     (∀ n : NodeId, (t.nodes[n]).state = (s.nodes[n]).state ∧ (t.nodes[n]).miss = (s.nodes[n]).miss ∧
       (t.nodes[n]).points = (s.nodes[n]).points ∧ (t.nodes[n]).lastOutcome = (s.nodes[n]).lastOutcome) ∧
     t.bus.line = s.bus.line ∧ t.bus.lineErrors = s.bus.lineErrors ∧ t.bus.flight = s.bus.flight ∧ t.bus.rx = s.bus.rx ∧
     t.bus.pass = s.bus.pass ∧ t.bus.poller = s.bus.poller ∧ t.bus.share = s.bus.share ∧ t.bus.rate = s.bus.rate)

/-! ## The host link (chapter 10) -/

/-- The LF that completes a line which passes the checks makes the request on that line: the receiver is idle, and the command the line
spells is performed (R184 to R186; that the two ways of giving a request agree is assumption 1). -/
def Obligations.LineIsItsRequest : Prop :=
  ∀ (c : Instr) (s : State) (line : List HostChar) (lf : HostChar),
    s.link.resetPending = none → s.link.receiver = .receiving line → HostChar.isLF lf = true → lineFault (stripCR line) = none →
    c.request = some (readRequest (lineContent (stripCR line))) →
    exec (.hostCharReceived lf) s = exec c { s with link := { s.link with receiver := .idle } }

/-- The receiver's table of R184 for a character that does not complete a line, and the characters discarded while an accepted RESET
waits (R21). h is the number of characters before the first `#`, line.length where there is none.
The gap timer's expiry ends a line being received with cause GAP, and ends the discarding of one silently (R184). That the event has no
effect in IDLE, where the timer does not run, is the model's choice (assumption 2). -/
def Obligations.ReceiverFollowsItsTable : Prop :=
  (∀ (s : State) (c : HostChar), s.bus.lost = [] →
     let next := exec (.hostCharReceived c) s
     let with_ := fun r => ({ s with link := { s.link with receiver := r } } : State)
     (s.link.resetPending.isSome = true → next = .next s) ∧
     (s.link.resetPending = none →
       (s.link.receiver = .idle → HostChar.isCR c = true ∨ HostChar.isLF c = true → next = .next s) ∧
       (s.link.receiver = .idle → HostChar.isCR c = false → HostChar.isLF c = false → next = .next (with_ (.receiving [c]))) ∧
       (s.link.receiver = .discarding → HostChar.isLF c = true → next = .next (with_ .idle)) ∧
       (s.link.receiver = .discarding → HostChar.isLF c = false → next = .next s) ∧
       ∀ line, s.link.receiver = .receiving line → HostChar.isLF c = false →
         let h := (line.takeWhile fun x => !HostChar.isHash x).length
         ((h = line.length → HostChar.isHash c = true ∨ line.length < 200) → (h < line.length → line.length < h + 4) →
           next = .next (with_ (.receiving (line ++ [c])))) ∧
         ((h = line.length ∧ HostChar.isHash c = false ∧ 200 ≤ line.length) ∨ h + 4 ≤ line.length →
           next = .next ((with_ .discarding).placeError .length)))) ∧
  (∀ s : State, s.bus.lost = [] → s.link.resetPending = none →
     (s.link.receiver = .idle → exec .hostGapTimeout s = .next s) ∧
     (s.link.receiver = .discarding → exec .hostGapTimeout s = .next { s with link := { s.link with receiver := .idle } }) ∧
     ∀ line, s.link.receiver = .receiving line →
       exec .hostGapTimeout s = .next (({ s with link := { s.link with receiver := .idle } } : State).placeError .gap))

/-- A complete line that fails its check gives an error line: placed with the transmitter, or, while a reply is being sent, in the answer
place, or discarded where that is held (R185, R187).
Its cause is CHECK unless the line holds one `#` with exactly two hexadecimal digits after it, in either case, that are the CRC-8 of what
stands before it. Where the check passes, the cause is SYNTAX unless the content is printable throughout, begins with `?` and holds a
character other than a space after it; else the line is sound (R185). A character received with a framing error is neither printable nor a
mark or digit (R183, R185). -/
def Obligations.BadLineIsAnswered : Prop :=
  (∀ (s : State) (line : List HostChar) (cause : LineCause), s.bus.lost = [] → s.link.resetPending = none →
    lineFault line = some cause →
    (s.link.replying = false →
      exec (.badLine line) s = .next { s with link := { s.link with tx := s.link.tx ++ [.err cause] } }) ∧
    (s.link.replying = true → s.link.answer = none →
      exec (.badLine line) s = .next { s with link := { s.link with answer := some (.err cause) } }) ∧
    (s.link.replying = true → s.link.answer.isSome = true → exec (.badLine line) s = .next s)) ∧
  (∀ (content : List HostChar) (h a b : HostChar) (x y : Nat), (∀ c ∈ content, HostChar.isHash c = false) → HostChar.isHash h = true →
    HostChar.hex a = some x → HostChar.hex b = some y →
    (lineFault (content ++ [h, a, b]) = some .check ↔ crc8 (content.map HostChar.byte) ≠ BitVec.ofNat 8 (16 * x + y))) ∧
  (∀ content : List HostChar, (∀ c ∈ content, HostChar.isHash c = false) → lineFault content = some .check) ∧
  (∀ (content after : List HostChar) (h : HostChar), (∀ c ∈ content, HostChar.isHash c = false) → HostChar.isHash h = true →
    (after.length ≠ 2 ∨ (∃ k ∈ after, HostChar.isHash k = true) ∨ (∃ d ∈ after, HostChar.hex d = none) →
      lineFault (content ++ h :: after) = some .check) ∧
    (lineFault (content ++ h :: after) ≠ some .check →
      let sound := (∀ c ∈ content, c.framing = false ∧ 0x20 ≤ c.byte.toNat ∧ c.byte.toNat ≤ 0x7E) ∧
        ∃ q rest, content = q :: rest ∧ q.byte = 0x3F#8 ∧ ∃ c ∈ rest, c.byte ≠ 0x20#8
      (sound → lineFault (content ++ h :: after) = none) ∧ (¬ sound → lineFault (content ++ h :: after) = some .syn))) ∧
  ∀ c : HostChar,
    (HostChar.isHash c = true ↔ c.framing = false ∧ c.byte = 0x23#8) ∧
    (∀ n : Nat, HostChar.hex c = some n ↔ c.framing = false ∧
      ((n ≤ 9 ∧ c.byte.toNat = 0x30 + n) ∨ (10 ≤ n ∧ n ≤ 15 ∧ (c.byte.toNat = 0x37 + n ∨ c.byte.toNat = 0x57 + n))))

/-- While a reply is being sent, a request's BUSY takes the answer place, or is discarded where that is held; while the deferred-reply slot
is held, BUSY is placed; while an accepted RESET waits, the request is lost. Nothing else changes (R187, R21). That the reply being sent is
what counts where the slot is held too is the model's choice (assumption 47), and so is that INPUT_STATE takes no key (assumption 46).
A request of a name the part does not know is answered UNKNOWN, whatever its pairs (R186, R188).
A request that takes no further fields is BADARG where it carries one, and a request that takes a loop alone is BADARG for loop where it
carries no pair (R186, R188). -/
def Obligations.RequestsAreBusyOrChecked : Prop :=
  (∀ (c : Instr) (name : String) (args : List Arg) (s : State), c.request = some (name, args) → s.bus.lost = [] →
     (s.link.resetPending.isSome = true → exec c s = .next s) ∧
     (s.link.resetPending = none →
       (s.link.replying = true → s.link.answer = none →
         exec c s = .next { s with link := { s.link with answer := some (.reply name .busy [] none) } }) ∧
       (s.link.replying = true → s.link.answer.isSome = true → exec c s = .next s) ∧
       (s.link.replying = false → s.bus.pass.held = true → exec c s = .next (s.answered name .busy [])))) ∧
  (∀ (name : String) (args : List Arg) (s : State), Ready s → knownName name = false →
     exec (.nameUnknown name args) s = .next (s.answered name .unknown [])) ∧
  (∀ (s : State), Ready s →
     (∀ x ∈ [(Instr.storeSave, "STORE_SAVE"), (.traceCut, "TRACE_CUT"), (.traceState, "TRACE_STATE"), (.identify, "IDENTIFY"),
         (.status, "STATUS"), (.siteGet, "SITE_GET"), (.busState, "BUS_STATE"), (.inputState, "INPUT_STATE"),
         (.overrideList, "OVERRIDE_LIST"), (.modeSetRun, "MODE_SET"), (.modeSetCommission, "MODE_SET"), (.resetWarm, "RESET"),
         (.resetCold, "RESET"), (.resetErase, "RESET")],
       ∀ a rest, ∃ k ∈ (a :: rest).map Arg.key, exec (x.1 (a :: rest)) s = .next (s.answered x.2 .badArg [("key", .word k)])) ∧
     (∀ x ∈ [(Instr.planRun, "PLAN_RUN"), (.planPause, "PLAN_PAUSE"), (.planSkip, "PLAN_SKIP"), (.planClear, "PLAN_CLEAR"),
         (.planState, "PLAN_STATE"), (.pumpSwap, "PUMP_SWAP"), (.loopState, "LOOP_STATE"), (.rosterGet, "ROSTER_GET"),
         (.rosterRotate, "ROSTER_ROTATE"), (.loopGet, "LOOP_GET")],
       exec (x.1 []) s = .next (s.answered x.2 .badArg [("key", .word "loop")]) ∧
       ∀ v, readLoop v = none → exec (x.1 [kv "loop" v]) s = .next (s.answered x.2 .badArg [("key", .word "loop")])))

/-- A request whose reply carries a status other than OK leaves every block as it was: its reply is all that changes (R188). -/
def Obligations.RepliesOtherThanOkChangeNothing : Prop :=
  ∀ (c : Instr) (name : String) (args : List Arg) (s t : State) (st : Status) (keys : List Field) (lines : Option (List (List Field))),
    c.request = some (name, args) → Ready s → exec c s = .next t →
    t.link.tx = s.link.tx ++ [.reply name st keys lines] → st ≠ .ok → t = s.place (.reply name st keys lines)

/-- ANSWER_LINE_SENT: the line in the answer place is sent, what was being sent before it having ended, and the place is free (R187). That
the transmitter then holds that line alone, and that the event has no effect with nothing in the place, is the model's choice
(assumption 3).
The due notice line waits for a quiet transmitter; it then names the sources pending and enabled in the order of the table, and the
flag is cleared; where there is none, the flag is cleared and no line is sent (R189).
With no command waiting the transmitter ends the line it is sending; once no reply is left to send, the line in the answer place
follows (R187). That this happens on an empty queue is the model's choice (assumption 3). -/
def Obligations.AnswerAndNoticeLinesAreSent : Prop :=
  (∀ s : State, s.bus.lost = [] →
     (∀ p, s.link.answer = some p → exec .answerLineSent s = .next { s with link := { s.link with tx := [p], answer := none } }) ∧
     (s.link.answer = none → exec .answerLineSent s = .next s)) ∧
  (∀ s : State, s.bus.lost = [] →
     let named := [Source.trace, .plan, .frost, .pump, .coil, .node, .bus, .input, .pulse, .override, .store, .mode].filter fun x =>
       s.notice.pending.contains x && s.notice.enabled.contains x
     let cleared : State := { s with notice := { s.notice with due := false } }
     (s.notice.due = false ∨ s.link.tx ≠ [] ∨ s.link.answer.isSome = true → exec .noticeLine s = .next s) ∧
     (s.notice.due = true → s.link.tx = [] → s.link.answer = none →
       (named = [] → exec .noticeLine s = .next cleared) ∧
       (named ≠ [] → exec .noticeLine s = .next { cleared with link := { s.link with tx := [.notice named] } }))) ∧
  (∀ s : State, s.pending = [] →
     (s.link.tx = [] → step s = .next s) ∧
     ∀ p rest, s.link.tx = p :: rest →
       ((∃ q ∈ rest, q.isReply = true) → step s = .next { s with link := { s.link with tx := rest } }) ∧
       ((∀ q ∈ rest, q.isReply = false) →
         step s = .next { s with link := { s.link with tx := rest ++ s.link.answer.toList, answer := none } }))

/-- NOTICE_ENABLE replaces the enabled set and sets the notice-due flag where it adds a source already pending; NOTICE_CLEAR removes sources
from the pending set; both answer with the two sets (R190). xs is any list of sources; the sets stand in the table's order, in the
replies too by the model's choice (assumption 54). -/
def Obligations.NoticeRequestsReplaceAndRemove : Prop :=
  ∀ (s : State) (xs : List Source), Ready s → xs ≠ [] →
    let list := joinWith "," (xs.map Source.name)
    let value := fun (ys : List Source) => if ys = [] then Val.none else .words (ys.map Source.name)
    let on := allSources.filter fun x => xs.contains x
    let left := s.notice.pending.filter fun x => !xs.contains x
    let added := on.any fun x => !s.notice.enabled.contains x && s.notice.pending.contains x
    exec (.noticeEnable [kv "sources" list]) s =
      .next (({ s with notice := { s.notice with enabled := on, due := s.notice.due || added } } : State).answered "NOTICE_ENABLE" .ok
        [("enabled", value on), ("pending", value s.notice.pending)]) ∧
    exec (.noticeEnable [kv "sources" "none"]) s =
      .next (({ s with notice := { s.notice with enabled := [] } } : State).answered "NOTICE_ENABLE" .ok
        [("enabled", .none), ("pending", value s.notice.pending)]) ∧
    exec (.noticeClear [kv "sources" list]) s =
      .next (({ s with notice := { s.notice with pending := left } } : State).answered "NOTICE_CLEAR" .ok
        [("enabled", value s.notice.enabled), ("pending", value left)]) ∧
    exec (.noticeClear [kv "sources" "none"]) s =
      .next (s.answered "NOTICE_CLEAR" .ok [("enabled", value s.notice.enabled), ("pending", value s.notice.pending)])

/-- IDENTIFY answers with the vendor, the part, the silicon revision, the site and cabinet as held, and the identity state (R191). The
revision letter is the model's free value: the statement holds whatever it is.
STATUS describes the part in one line (R192); the notice sets stand in it as they are held (assumption 54). -/
def Obligations.IdentifyAndStatusDescribeThePart : Prop :=
  (∀ s : State, Ready s →
     exec (.identify []) s = .next (s.answered "IDENTIFY" .ok
       [("vendor", .word "BREVOLD"), ("part", .word "PB-416"), ("rev", .word Config.revision),
        ("site", if s.identity.data.site = "" then .none else .word s.identity.data.site),
        ("cabinet", match s.identity.data.cabinet with
          | none => .none
          | some n => .int n),
        ("identity", .word (if s.identity.set = true then "SET" else "BLANK"))])) ∧
  (∀ s : State, Ready s →
     let sources := fun (ys : List Source) => if ys = [] then Val.none else .words (ys.map Source.name)
     exec (.status []) s = .next (s.answered "STATUS" .ok
       [("mode", .word s.mode.name), ("store", .word s.store.settings.name),
        ("save", .word (if s.store.saving = none then "IDLE" else "SAVING")),
        ("identity", .word (if s.identity.set = true then "SET" else "BLANK")),
        ("svc", .word (if s.inputs.svc.debounced = false then "ACTIVE" else "INACTIVE")),
        ("L0", .word (s.loops[0]).state.name), ("L1", .word (s.loops[1]).state.name), ("L2", .word (s.loops[2]).state.name),
        ("L3", .word (s.loops[3]).state.name),
        ("bus", .word (if s.bus.line = .up then "UP" else "DOWN")), ("pending", sources s.notice.pending),
        ("enabled", sources s.notice.enabled), ("h0", .word s.trace.h0.state.name), ("h1", .word s.trace.h1.state.name),
        ("uptime", .int s.uptime)]))

/-! ## Readings: the reply tells the state, and nothing else changes -/

/-- SITE_GET, NODE_GET and COIL_GET answer with every field of the record, one to a line, and the read-only fields after them (R3, R4, R8,
R10).
LOOP_GET answers with the thirty-eight fields of the loop record, then the read-only fault and check (R5, R10, R12).
The header keys, record=SITE or the selector, and one field to a line are the model's form (assumption 17), and so is the order of the
options and of the check items (assumption 54). -/
def Obligations.RecordsAreRead : Prop :=
  (∀ s : State, Ready s →
     (let r := s.cfg.site
      exec (.siteGet []) s = .next (s.listed "SITE_GET" [("record", .word "SITE")]
        [[("outdoor_pt", pointVal r.outdoorPt)], [("outdoor_pulse", optWord chanName r.outdoorPulse)], [("bus_rate", .int r.busRate)],
         [("reply_window", .int r.replyWindow)], [("stale_limit", .int r.staleLimit)], [("round_spacing", .int r.roundSpacing)],
         [("autorun", .yesNo r.autorun)], [("bus_rate_now", .int s.bus.rate)]])) ∧
     (∀ n : NodeId, exec (.nodeGet [kv "node" (nodeName n)]) s = .next (s.listed "NODE_GET" [("node", .word (nodeName n))]
        [[("role", .word (s.cfg.nodes[n]).role.name)], [("channels", .int (s.cfg.nodes[n]).channels)]])) ∧
     ∀ c : CoilId,
       let r := s.cfg.coils[c]
       exec (.coilGet [kv "coil" (coilName c)]) s = .next (s.listed "COIL_GET" [("coil", .word (coilName c))]
         [[("loop", loopVal r.loop)], [("fan_node", nodeVal r.fanNode)], [("valve_node", nodeVal r.valveNode)],
          [("outlet_pt", pointVal r.outletPt)], [("icing_pt", pointVal r.icingPt)], [("fan_min", .int r.fanMin)],
          [("fan_max", .int r.fanMax)], [("options", r.options.val)], [("withdrawn", .yesNo r.withdrawn)]])) ∧
  (∀ (s : State) (l : LoopId), Ready s →
     let r := s.cfg.loops[l]
     exec (.loopGet [kv "loop" (loopName l)]) s = .next (s.listed "LOOP_GET" [("loop", .word (loopName l))]
       ([[("in_use", .yesNo r.inUse)], [("freeze", .temp r.freeze)], [("watch_margin", .temp r.watchMargin)],
         [("trip_margin", .temp r.tripMargin)], [("frost_hyst", .temp r.frostHyst)], [("floor", .temp r.floor)],
         [("min_flow", .int r.minFlow)], [("pump_a", nodeVal r.pumpA)], [("pump_b", nodeVal r.pumpB)], [("bypass", nodeVal r.bypass)],
         [("supply_pt", pointVal r.supplyPt)], [("return_pt", pointVal r.returnPt)], [("flow_src", optWord FlowSource.name r.flowSrc)],
         [("prove", .int r.prove)], [("flowloss_time", .int r.flowlossTime)]] ++
        [[("fallback_target", .temp r.fallbackTarget)], [("fallback_band", .temp r.fallbackBand)], [("tick", .int r.tick)],
         [("fan_step", .int r.fanStep)], [("bypass_step", .int r.bypassStep)], [("holdoff", .int r.holdoff)],
         [("admit_steps", .int r.admitSteps)], [("step_dwell", .int r.stepDwell)], [("slug", .temp r.slug)],
         [("admit_timeout", .int r.admitTimeout)], [("rundown", .int r.rundown)], [("stroke_timeout", .int r.strokeTimeout)]] ++
        [[("kw_threshold", .temp r.kwThreshold)], [("kw_interval", .int r.kwInterval)], [("kw_dwell", .int r.kwDwell)],
         [("kw_position", .int r.kwPosition)], [("kw_concurrency", .int r.kwConcurrency)], [("shed_speed", .int r.shedSpeed)],
         [("shed_time", .int r.shedTime)], [("shed_cooldown", .int r.shedCooldown)], [("icing_limit", .int r.icingLimit)],
         [("rotate_interval", .int r.rotateInterval)], [("sample_every", .int r.sampleEvery)]] ++
        [[("fault", .word (if (s.loops[l]).configFault = true then "CONFIG" else "NONE"))],
         [("check", listVal ((s.loops[l]).check.map CheckItem.name))]])))

/-- PLAN_GET reads one slot: filled with every segment field, or unfilled with none, and whether it lies in the live range; a slot outside 0
to 7 is BADARG key=slot (R27).
PLAN_STATE reports the plan with the values in force; LOOP_STATE describes the loop; ROSTER_GET gives the order, the rotation timer and,
while a rotation waits, deferred=yes (R43, R76, R78). That a= and b= are comma lists is the model's form (assumption 17), and that a pump's
status code without a name is written as its number (assumption 52), and the order of flags= and check= (assumption 54), are its choice. -/
def Obligations.PlansLoopsAndRostersAreRead : Prop :=
  (∀ (s : State) (l : LoopId) (args : List Arg), Ready s → loopArg args = some l →
     (∀ i : SlotId, badArg [loopKey, slotKey "slot"] args = none → (argOf args "slot").bind readSlot = some i →
       let p := s.plans[l]
       let live := p.state ≠ .empty ∧ (i - p.cur).val ≤ (p.last - p.cur).val
       (∀ g, (p.slots)[i] = some g → exec (.planGet args) s = .next (s.answered "PLAN_GET" .ok
         [("slot", .int i.val), ("filled", .yesNo true), ("live", .yesNo (decide live)), ("target", .temp g.target),
          ("band", .temp g.band), ("ceiling", .int g.ceiling), ("min_coils", .int g.minCoils), ("max_coils", .int g.maxCoils),
          ("duration", .int g.duration), ("ramp", .int g.ramp), ("notify", .yesNo g.notify)])) ∧
       ((p.slots)[i] = none → exec (.planGet args) s = .next (s.answered "PLAN_GET" .ok
         [("slot", .int i.val), ("filled", .yesNo false), ("live", .yesNo (decide live))]))) ∧
     ∀ v, readSlot v = none → args = [kv "loop" (loopName l), kv "slot" v] →
       exec (.planGet args) s = .next (s.answered "PLAN_GET" .badArg [("key", .word "slot")])) ∧
  (∀ (s : State) (l : LoopId), Ready s →
     let p := s.plans[l]
     let e := s.effective l
     let x := s.loops[l]
     let pump := fun (q : Pump) (r : Option Int) => Val.words [healthName q.faulted, runName q.run, pumpStatusName r]
     exec (.planState [kv "loop" (loopName l)]) s = .next (s.answered "PLAN_STATE" .ok
       [("state", .word p.state.name), ("cur", .int p.cur.val), ("last", .int p.last.val), ("prep", .int p.prep.val),
        ("live", .int (if p.state = .empty then 0 else (p.last - p.cur).val + 1 : Nat)), ("elapsed", .int p.elapsed),
        ("verdict", .word p.verdict.name), ("source", .word (if p.state = .empty then "FALLBACK" else "PLAN")),
        ("target", .temp e.target), ("band", .temp e.band), ("ceiling", .int e.ceiling), ("min_coils", .int e.minCoils),
        ("max_coils", .int e.maxCoils), ("ramp", .int e.ramp)]) ∧
     exec (.loopState [kv "loop" (loopName l)]) s = .next (s.answered "LOOP_STATE" .ok
       [("state", .word x.state.name), ("reason", optWord FailReason.name x.reason), ("duty", .word x.duty.name),
        ("a", pump x.pumpA (s.pumpStatus l .a)), ("b", pump x.pumpB (s.pumpStatus l .b)), ("proof", optNat x.proof.left),
        ("lowflow", optNat x.lowflow.left), ("fan_step", .int x.fanStep),
        ("fan", .int (x.fanStep * (s.cfg.loops[l]).fanStep : Nat)), ("bypass", .int x.bypass),
        ("flags", listVal ((if x.blind then ["BLIND"] else []) ++ (if x.cold then ["COLD"] else []) ++
          (if x.satWarm then ["SAT_WARM"] else []) ++ (if x.satCold then ["SAT_COLD"] else []))),
        ("blind", .int x.blindCount), ("holdoff", if x.state = .idle then .none else .int (x.holdoff.left.getD 0 : Nat)),
        ("supply", optTempU (s.supply l)), ("return", optTempU (s.return l)), ("flow", optIntU (s.flow l)), ("target", .temp e.target),
        ("band", .temp e.band), ("serving", .int (s.servingCount l)), ("admitting", .int (s.admittingCount l)),
        ("frost", .word (s.summaries[l]).name), ("fault", .word (if x.configFault = true then "CONFIG" else "NONE")),
        ("check", listVal (x.check.map CheckItem.name))]) ∧
     exec (.rosterGet [kv "loop" (loopName l)]) s = .next (s.answered "ROSTER_GET" .ok
       ([("loop", .word (loopName l)), ("count", .int (s.cfg.rosters[l]).length),
         ("order", listVal ((s.cfg.rosters[l]).map coilName)), ("rotate", optNat (s.units[l]).rotation.left)] ++
        (if (s.units[l]).deferred = true then [("deferred", .yesNo true)] else []))))

/-- COIL_STATE answers with one line for each coil of the mask, all sixteen where none is given, in order of coil number (R107). FROST_STATE
answers for a loop, in roster order, with its summary and four levels, or for all sixteen coils with the four summaries (R124, R110).
OVERRIDE_LIST gives one line for each entry, in order of coil number, and their count (R139).
COIL_MATCH gives the coils, among those named, that match every attribute given, and their count; bit k stands for coil Ck (R127, R135). The
composed values of phase=, override=, timers= and queues=, and the key summary= of FROST_STATE, are the model's form (assumption 17), and the
key count= of COIL_STATE is its key (assumption 41); that fan_status= is NONE whenever the fan's status point is not FRESH, and the number of
a code without a name (assumption 52), the order of timers= and queues= (assumption 54), and that opt_set and opt_clear take none (assumption
8), are its choice. -/
def Obligations.CoilsFrostAndOverridesAreRead : Prop :=
  (∀ (s : State) (args : List Arg) (cs : List CoilId), Ready s → badArg [.may "coils" [.mask] (known readMask)] args = none →
     ((args = [] ∧ cs = List.finRange 16) ∨
       ∃ m : CoilSet, (argOf args "coils").bind readMask = some m ∧ cs = (List.finRange 16).filter fun c => m.getLsbD c.val) →
     exec (.coilState args) s = .next (s.listed "COIL_STATE" [("count", .int cs.length)] (cs.map fun c =>
       let x := s.coils[c]
       [("coil", .word (coilName c)), ("loop", loopVal (s.cfg.coils[c]).loop),
        ("pos", optNat (((s.cfg.coils[c]).loop).bind fun l => placeIn (s.cfg.rosters[l]) c)), ("state", .word x.service.name),
        ("phase", x.service.phaseVal),
        ("out", .yesNo (match x.service with
          | .retiring _ o => o
          | _ => false)),
        ("valve", optNat x.desiredValve), ("settled", .yesNo x.settled), ("feedback", optIntU (s.valvePosition c)),
        ("fan", .int x.desiredFan), ("fan_status", fanStatusVal (s.fanStatus c)), ("frost", .word (s.frost[c]).state.name),
        ("override", overrideVal s.overrides[c]), ("ref", optTemp x.admitRef), ("timers", listVal x.timerWords),
        ("queues", listVal (s.queueWords c))]))) ∧
  (∀ s : State, Ready s →
     let line := fun (c : CoilId) =>
       [("coil", Val.word (coilName c)), ("loop", loopVal (s.cfg.coils[c]).loop), ("frost", .word (s.frost[c]).state.name),
        ("value", optTempU (s.frost[c]).value),
        ("fresh", match (s.cfg.coils[c]).outletPt with
          | some pt => .word (s.pointEntry pt).fresh.name
          | none => .none),
        ("since", .int (s.frost[c]).since), ("cause", .word (s.frost[c]).cause.name), ("svc", .word (s.coils[c]).service.name)]
     (∀ l : LoopId,
       let r := s.cfg.loops[l]
       exec (.frostState [kv "loop" (loopName l)]) s = .next (s.listed "FROST_STATE"
         [("loop", .word (loopName l)), ("summary", .word (s.summaries[l]).name), ("trip", .temp (r.freeze + r.tripMargin)),
          ("watch", .temp (r.freeze + r.watchMargin)), ("trip_rel", .temp (r.freeze + r.tripMargin + r.frostHyst)),
          ("watch_rel", .temp (r.freeze + r.watchMargin + r.frostHyst))]
         ((s.cfg.rosters[l]).map line))) ∧
     (∀ v, readLoop v = none → exec (.frostState [kv "loop" v]) s = .next (s.answered "FROST_STATE" .badArg [("key", .word "loop")])) ∧
     exec (.frostState []) s = .next (s.listed "FROST_STATE"
       [("L0", .word (s.summaries[0]).name), ("L1", .word (s.summaries[1]).name), ("L2", .word (s.summaries[2]).name),
        ("L3", .word (s.summaries[3]).name)]
       ((List.finRange 16).map line))) ∧
  (∀ s : State, Ready s →
     let lines := (List.finRange 16).flatMap fun c => match s.overrides[c] with
       | none => []
       | some o =>
         [[("coil", Val.word (coilName c)), ("loop", loopVal (s.cfg.coils[c]).loop)] ++
           (match o.kind with
            | .fan v => [("kind", .word "FAN"), ("value", .int v)]
            | .hold => [("kind", .word "HOLD")]) ++
           [("expiry", optNat o.expiry), ("left", optNat (o.expiry.map fun t => t - s.uptime))]]
     exec (.overrideList []) s = .next (s.listed "OVERRIDE_LIST" [("count", .int lines.length)] lines)) ∧
  (∀ (s : State) (args : List Arg), Ready s → badArg matchKeys args = none →
     let named := fun (c : CoilId) => match (argOf args "coils").bind readMask with
       | some m => m.getLsbD c.val
       | none => true
     let listed := fun (k w : String) => match argOf args k with
       | some v => w ∈ ((splitAt ',' v.toList).map String.ofList)
       | none => True
     let hit := fun (c : CoilId) =>
       named c = true ∧ listed "loop" (match (s.cfg.coils[c]).loop with
         | some l => loopName l
         | none => "none") ∧
       listed "state" (s.coils[c]).service.name ∧ listed "frost" (s.frost[c]).state.name ∧
       listed "override" (match s.overrides[c] with
         | none => "NONE"
         | some o => match o.kind with
           | .fan _ => "FAN"
           | .hold => "HOLD") ∧
       listed "nodes" (if s.nodesOnline c then "ONLINE" else "NOT_ONLINE") ∧
       (∀ k ∈ optsArg args "opt_set", (s.cfg.coils[c]).options.has k = true) ∧
       (∀ k ∈ optsArg args "opt_clear", (s.cfg.coils[c]).options.has k = false)
     ∃ (m : CoilSet) (n : Nat), exec (.coilMatch args) s = .next (s.answered "COIL_MATCH" .ok [("coils", .mask m), ("count", .int n)]) ∧
       (∀ c : CoilId, m.getLsbD c.val = true ↔ hit c) ∧ ∃ cs : List CoilId, cs.Nodup ∧ cs.length = n ∧ ∀ c, c ∈ cs ↔ hit c)

/-- NODE_STATE answers for every node with a role, or for one node with its polled points and, where it is bound as an output node, its
output shadow; BUS_STATE gives the bus with its queues (R159, R160).
PULSE_GET, PULSE_STATE, INPUT_GET and INPUT_STATE tell the records, the measurements, the inputs, the conditions and the outdoor selection
(R162, R166, R171). How bus=, pass=, flight=, poller=, role= and loops= are composed is the model's choice (assumption 17), and so is the
reported role written as its code (assumption 23). Keys that no rule spells, count= of NODE_STATE and PULSE_STATE among them, are the model's
(assumption 41), and so is the rounding down of since= (assumption 21). That PULSE_GET writes scale with one decimal place, as a temperature
is written, is the model's reading (assumption 11); that NODE_STATE writes the value of a polled point as its signed number, whatever the
point is, is its choice (assumption 48); and so is that window= of BUS_STATE is the reply_window of the site record, also while a transaction
granted under an older one is on the line, and the word NONE in poller= where nothing is left to ask (assumption 50), and the order of role=
and loops= (assumption 54). -/
def Obligations.RoofAndInputsAreRead : Prop :=
  (∀ s : State, Ready s →
     (let ns := (List.finRange 31).filter fun n => (s.cfg.nodes[n]).role ≠ .none
      exec (.nodeState []) s = .next (s.listed "NODE_STATE" [("count", .int ns.length)] (ns.map fun n =>
        [("node", .word (nodeName n)), ("role", .word (s.cfg.nodes[n]).role.name), ("state", .word (s.nodes[n]).state.name),
         ("miss", .int (s.nodes[n]).miss), ("outcome", optWord BusOutcome.name (s.nodes[n]).lastOutcome)]))) ∧
     (∀ n : NodeId,
       let r := s.cfg.nodes[n]
       let e := s.nodes[n]
       exec (.nodeState [kv "node" (nodeName n)]) s = .next (s.listed "NODE_STATE"
         [("node", .word (nodeName n)), ("role", .word r.role.name), ("channels", .int r.channels), ("state", .word e.state.name),
          ("miss", .int e.miss), ("reported", reportedVal e.reported), ("outcome", optWord BusOutcome.name e.lastOutcome),
          ("status", optWord BusStatus.name e.lastStatus), ("heard", optNat e.lastHeard)]
         ((((List.finRange 4).filter fun p => r.polls p.val).map fun p =>
           [("point", .word (pointName n p.val)), ("value", optIntU ((e.points)[p]).value), ("fresh", .word ((e.points)[p]).fresh.name),
            ("read", optNat ((e.points)[p]).readAt)]) ++ s.outputLine n))) ∧
     exec (.busState []) s = .next (s.listed "BUS_STATE"
       [("bus", match s.bus.line with
          | .up => .word "UP"
          | .down k => .words ["DOWN", toString k]),
        ("line_errors", .int s.bus.lineErrors), ("rate", .int s.bus.rate), ("window", .int s.cfg.site.replyWindow),
        ("urgent", .int s.bus.urgent.length), ("routine", .int s.bus.routine.length), ("pass", passVal s.bus.pass),
        ("flight", flightVal s.bus.flight), ("poller", s.pollerVal), ("share", .int s.bus.share)]
       (s.bus.urgent.map (s.entryLine .urgent) ++ s.bus.routine.map (s.entryLine .routine)))) ∧
  (∀ s : State, Ready s →
     let chanLine := fun (p : ChanId) =>
       let x := (s.inputs.chans)[p]
       [("channel", Val.word (chanName p)), ("mode", .word (s.cfg.chans[p]).mode.name), ("role", .words (s.chanRoles p)),
        ("status", .word x.status.name), ("value", optIntU (x.value.map fun v => (v : Int))), ("count", .int x.lastCount),
        ("since", optNat (x.lastEdge.map fun t => (s.uptime * 1000000 - t) / 1000000))]
     let inputLine := fun (i : InputId) =>
       let x := (s.inputs.contacts)[i]
       [("input", Val.word (inputName i)), ("pin", .word (if x.pin then "HIGH" else "LOW")),
        ("state", .word (if x.debounced = (s.cfg.inputs[i]).activeHigh then "ACTIVE" else "INACTIVE")),
        ("role", .word (s.cfg.inputs[i]).role.name), ("debounce", .yesNo x.timer.isSome)]
     (∀ p : ChanId,
       let r := s.cfg.chans[p]
       exec (.pulseGet [kv "channel" (chanName p)]) s = .next (s.answered "PULSE_GET" .ok
         [("channel", .word (chanName p)), ("mode", .word r.mode.name), ("edge", .word (edgeName r.edge)), ("scale", .temp r.scale),
          ("silence", .int r.silence), ("role", .words (s.chanRoles p)), ("loops", listVal ((s.flowLoops p).map loopName))]) ∧
       exec (.pulseState [kv "channel" (chanName p)]) s = .next (s.listed "PULSE_STATE" [("count", .int 1)] [chanLine p])) ∧
     exec (.pulseState []) s = .next (s.listed "PULSE_STATE" [("count", .int 6)] ((List.finRange 6).map chanLine)) ∧
     (∀ i : InputId,
       let r := s.cfg.inputs[i]
       exec (.inputGet [kv "input" (inputName i)]) s = .next (s.answered "INPUT_GET" .ok
         [("input", .word (inputName i)), ("level", .word (if r.activeHigh then "HIGH" else "LOW")), ("debounce", .int r.debounce),
          ("notice", .word r.notice.name), ("role", .word r.role.name)])) ∧
     exec (.inputState []) s = .next (s.listed "INPUT_STATE"
       [("plant_stop", .word (activeName s.inputs.plantStop)), ("snow_warn", .word (activeName s.inputs.snowWarn)),
        ("svc", .word (if s.inputs.svc.debounced = false then "ACTIVE" else "INACTIVE")),
        ("outdoor", match s.inputs.outdoor.temp with
          | some t => .temp t
          | none => .word "UNKNOWN"),
        ("source", .word s.inputs.outdoor.sourceName), ("host", optTemp (s.inputs.host.map fun h => h.value)),
        ("left", optNat (s.inputs.host.map fun h => h.expiry - s.uptime))]
       ((List.finRange 8).map inputLine)))

/-- TRACE_STATE gives each half's state, fill and serial, the writer, locked since, the missed count and the next serial (R181); TRACE_READ
gives up to count entries, 16 where it is not named, from an index of a half on, and a from at or above the fill is BADARG (R180). That h0=,
h1= and writer= are comma lists is the model's choice (assumption 17), and the keys of TRACE_READ's header are its keys (assumption 41). -/
def Obligations.TraceIsRead : Prop :=
  ∀ s : State, Ready s →
    (let half := fun (h : Half) => Val.words [h.state.name, toString h.entries.length, toString h.serial]
     exec (.traceState []) s = .next (s.answered "TRACE_STATE" .ok
       [("h0", half s.trace.h0), ("h1", half s.trace.h1),
        ("writer", match s.trace.writer with
          | .writing .h0 => .words ["WRITING", "H0", toString s.trace.h0.entries.length]
          | .writing .h1 => .words ["WRITING", "H1", toString s.trace.h1.entries.length]
          | .locked _ => .word "LOCKED"),
        ("since", match s.trace.writer with
          | .writing _ => .none
          | .locked t => .int t),
        ("missed", .int s.trace.missed), ("next", .int s.trace.next)])) ∧
    ∀ (args : List Arg) (h : HalfId) (k n : Nat), badArgOrdered traceReadKeys args = none → halfArg args = some h →
      (argOf args "from").bind readInt = some (k : Int) →
      ((argOf args "count" = none ∧ n = 16) ∨ (argOf args "count").bind readInt = some (n : Int)) →
      let x := match h with
        | .h0 => s.trace.h0
        | .h1 => s.trace.h1
      let es := (x.entries.drop k).take n
      (x.entries.length ≤ k → exec (.traceRead args) s = .next (s.answered "TRACE_READ" .badArg [("key", .word "from")])) ∧
      (k < x.entries.length → ∃ lines, exec (.traceRead args) s = .next (s.listed "TRACE_READ"
          [("half", .word (match h with
             | .h0 => "H0"
             | .h1 => "H1")),
           ("state", .word x.state.name), ("serial", .int x.serial), ("fill", .int x.entries.length), ("from", .int k),
           ("count", .int es.length)] lines) ∧
        lines.length = es.length ∧
        ∀ (j : Nat) (e : TraceEntry), es[j]? = some e →
          lines[j]? = some ([("idx", .int (k + j : Nat)), ("t", .int e.t), ("kind", .word e.body.kindName),
            ("subj", .word e.subj.name)] ++ e.body.fields))

/-! ## Configuration records (chapter 1, R162, R166) -/

/-- Which fields of each record are OPERATE, SERVICE and binding (R1, R3, R4, R5, R8, R162, R166), and that a write sets the fields it names
and no other (R2), the read-only autorun and withdrawn least of all (R3, R8).
The forms and the range of every field: a value in range is what the field then holds, and any other is not taken (R3 to R6, R8, R162, R166).
Temperatures and scale are counted in tenths (assumption 11). trip_margin is here held to the range the largest watch_margin gives it, 1.0 to
29.0; what a present watch_margin leaves of it is checked on the whole record. outdoor_pulse is here held to a channel in WIDTH mode. Both
are the model's choice (assumption 9). -/
def Obligations.WritesSetTheNamedFields : Prop :=
  (∀ chans, FieldsWritten (siteCols chans)) ∧ FieldsWritten nodeCols ∧ FieldsWritten loopCols ∧ FieldsWritten coilCols ∧
  FieldsWritten chanCols ∧ FieldsWritten inputCols ∧
  (∀ chans args r, (applyArgs (siteCols chans) args r).autorun = r.autorun) ∧
  (∀ args r, (applyArgs coilCols args r).withdrawn = r.withdrawn) ∧
  (∀ chans, keysOf (siteCols chans) .operate = [] ∧ keysOf (siteCols chans) .binding = ["outdoor_pt"] ∧
    keysOf (siteCols chans) .service = ["outdoor_pulse", "bus_rate", "reply_window", "stale_limit", "round_spacing"]) ∧
  keysOf nodeCols .binding = ["role", "channels"] ∧ nodeCols.length = 2 ∧
  keysOf loopCols .binding = ["in_use", "pump_a", "pump_b", "bypass", "supply_pt", "return_pt", "flow_src"] ∧
  keysOf loopCols .service =
    ["freeze", "watch_margin", "trip_margin", "frost_hyst", "floor", "min_flow", "prove", "flowloss_time"] ∧
  keysOf loopCols .operate =
    ["fallback_target", "fallback_band", "tick", "fan_step", "bypass_step", "holdoff", "admit_steps", "step_dwell", "slug",
     "admit_timeout", "rundown", "stroke_timeout"] ++
    ["kw_threshold", "kw_interval", "kw_dwell", "kw_position", "kw_concurrency", "shed_speed", "shed_time", "shed_cooldown",
     "icing_limit", "rotate_interval", "sample_every"] ∧
  keysOf coilCols .binding = ["loop", "fan_node", "valve_node", "outlet_pt", "icing_pt"] ∧
  keysOf coilCols .operate = ["fan_min", "fan_max", "options"] ∧ coilCols.length = 8 ∧
  keysOf chanCols .service = ["mode", "edge", "scale", "silence"] ∧ chanCols.length = 4 ∧
  keysOf inputCols .service = ["level", "debounce", "notice", "role"] ∧ inputCols.length = 4 ∧
  (∀ chans,
    (∀ x ∈ [("reply_window", 10, 200), ("stale_limit", 5, 120), ("round_spacing", 0, 10)],
      FieldTakes (siteCols chans) x.1 [.int] (intFrom x.2.1 x.2.2)) ∧
    FieldTakes (siteCols chans) "bus_rate" [.int]
      (fun v => (readInt v).bind fun n => if n ∈ [9600, 19200, 38400] then some (.int n) else none) ∧
    FieldTakes (siteCols chans) "outdoor_pulse" [.name, .none]
      (orNone (oneOf (((List.finRange 6).filter fun p => (chans[p]).mode = .width).map chanName))) ∧
    FieldTakes (siteCols chans) "outdoor_pt" [.point, .none] (orNone aPoint)) ∧
  FieldTakes nodeCols "role" [.name] (oneOf ["NONE", "FAN", "VALVE", "PUMP", "SENSOR"]) ∧
  FieldTakes nodeCols "channels" [.int] (intFrom 1 4) ∧
  (∀ x ∈ [("freeze", -600, 0), ("watch_margin", 30, 300), ("trip_margin", 10, 290), ("frost_hyst", 5, 50), ("floor", -100, 250),
      ("fallback_target", -100, 400), ("fallback_band", 2, 50), ("slug", 5, 50), ("kw_threshold", -400, 50)],
    FieldTakes loopCols x.1 [.temp] (tempFrom x.2.1 x.2.2)) ∧
  (∀ x ∈ [("min_flow", 0, 60000), ("prove", 10, 120), ("flowloss_time", 5, 60), ("tick", 5, 60), ("fan_step", 2, 10),
      ("bypass_step", 5, 25), ("holdoff", 60, 1800), ("admit_steps", 2, 10), ("step_dwell", 30, 600), ("admit_timeout", 300, 7200),
      ("rundown", 10, 120), ("stroke_timeout", 30, 300)] ++
      [("kw_interval", 600, 21600), ("kw_dwell", 60, 1800), ("kw_position", 5, 40), ("kw_concurrency", 1, 4), ("shed_speed", 20, 100),
      ("shed_time", 30, 600), ("shed_cooldown", 600, 14400), ("icing_limit", 10, 90)],
    FieldTakes loopCols x.1 [.int] (intFrom x.2.1 x.2.2)) ∧
  (∀ x ∈ [("rotate_interval", 3600, 604800), ("sample_every", 1, 60)], FieldTakes loopCols x.1 [.int] (offOr (intFrom x.2.1 x.2.2))) ∧
  FieldTakes loopCols "in_use" [.yesNo] yesOrNo ∧
  (∀ k ∈ ["pump_a", "pump_b", "bypass"], FieldTakes loopCols k [.name, .none] (orNone aNode)) ∧
  (∀ k ∈ ["supply_pt", "return_pt"], FieldTakes loopCols k [.point, .none] (orNone aPoint)) ∧
  FieldTakes loopCols "flow_src" [.name, .point, .none]
    (orNone fun v => (oneOf ["P0", "P1", "P2", "P3", "P4", "P5"] v).orElse fun _ => aPoint v) ∧
  FieldTakes coilCols "loop" [.name, .none] (orNone (oneOf ["L0", "L1", "L2", "L3"])) ∧
  (∀ k ∈ ["fan_node", "valve_node"], FieldTakes coilCols k [.name, .none] (orNone aNode)) ∧
  (∀ k ∈ ["outlet_pt", "icing_pt"], FieldTakes coilCols k [.point, .none] (orNone aPoint)) ∧
  FieldTakes coilCols "fan_min" [.int] (intFrom 10 50) ∧ FieldTakes coilCols "fan_max" [.int] (intFrom 50 100) ∧
  FieldTakes coilCols "options" [.list, .none] someOptions ∧
  FieldTakes chanCols "mode" [.name] (oneOf ["OFF", "COUNT", "PERIOD", "WIDTH"]) ∧
  FieldTakes chanCols "edge" [.name] (oneOf ["RISE", "FALL"]) ∧
  FieldTakes chanCols "scale" [.temp] (tempFrom 1 10000) ∧ FieldTakes chanCols "silence" [.int] (intFrom 1 60) ∧
  FieldTakes inputCols "level" [.name] (oneOf ["HIGH", "LOW"]) ∧ FieldTakes inputCols "debounce" [.int] (intFrom 10 500) ∧
  FieldTakes inputCols "notice" [.name] (oneOf ["NONE", "RISE", "FALL", "BOTH"]) ∧
  FieldTakes inputCols "role" [.name] (oneOf ["NONE", "PLANT_STOP", "SNOW_WARN", "GENERAL"])

/-- A write that fails its first pass is BADARG for the key that the pass names (R2): the first pair of the line that has not its form, form
being checked over the whole line first (R186); then the first pair whose key is not taken or whose value is out of range; and last the
missing selector, which is the model's choice (assumption 7). Where the record as it would stand breaks a condition between its own
fields, it is BADARG for the key of that condition: channels for a node of more than one channel that is no SENSOR, the first named of
the two margins, outlet_pt for a coil that would have a loop and no outlet point, the first named of the two fan limits (R2, R4, R5, R8).
That the outlet point is tried before the fan limits, and the WIDTH mode of outdoor_pulse among the ranges, is the model's choice
(assumption 9). A write that passes these and names a SERVICE or binding field while SVC is inactive is REFUSED why=TIER with the first
such key; one that names a binding field in RUN, with SVC active, is REFUSED why=MODE with the first such key (R1). A write that passes
these too is REFUSED why=STATE with the first key of its line whose condition with other records fails: outdoor_pt; role and channels of
a node to which a binding is made; the bindings of a loop, in_use=no while a coil is assigned to it, kw_concurrency below its SCHEDULED
cycles; the loop of a coil, where it is not in use, and a coil's bindings; the mode of the channel that is outdoor_pulse (R2, R3, R4, R6,
R8, R9, R99, R162). INPUT_SET has no such condition (R166). -/
def Obligations.RangeTierAndModeGuardWrites : Prop :=
  ∀ (s : State) (args : List Arg) (a : Arg), Ready s →
    let tier := [("why", Val.word "TIER"), ("key", .word a.key)]
    let mode := [("why", Val.word "MODE"), ("key", .word a.key)]
    let guarded := fun {α : Type} (cols : List (Col α)) (why : List Field) =>
      (s.inputs.svc.debounced = true ∧ why = tier ∧ args.find? (fun a => tierOf cols a ≠ .operate) = some a) ∨
      (s.inputs.svc.debounced = false ∧ s.mode = .run ∧ why = mode ∧ args.find? (fun a => tierOf cols a = .binding) = some a)
    let badArg := fun (name k : String) => Host.Outcome.next (s.answered name .badArg [("key", .word k)])
    let inState := fun (name k : String) => Host.Outcome.next (s.answered name .refused [("why", .word "STATE"), ("key", .word k)])
    (∀ (α : Type) (sel : List KeySpec) (cols : List (Col α)) (base : α),
      FirstPass (sel ++ cols.map (Col.spec base)) args (setFault sel cols base args)) ∧
    (∀ k,
      (setFault [] (siteCols s.cfg.chans) s.cfg.site args = some k → exec (.siteSet args) s = badArg "SITE_SET" k) ∧
      (setFault [nodeKey] nodeCols .default args = some k → exec (.nodeSet args) s = badArg "NODE_SET" k) ∧
      (setFault [loopKey] loopCols .default args = some k → exec (.loopSet args) s = badArg "LOOP_SET" k) ∧
      (setFault [coilKey] coilCols .default args = some k → exec (.coilSet args) s = badArg "COIL_SET" k) ∧
      (setFault [chanKey] chanCols .default args = some k → exec (.pulseSet args) s = badArg "PULSE_SET" k) ∧
      (setFault [inputKey] inputCols .default args = some k → exec (.inputSet args) s = badArg "INPUT_SET" k)) ∧
    (∀ n, setFault [nodeKey] nodeCols .default args = none → nodeArg args = some n →
      (let r := applyArgs nodeCols args s.cfg.nodes[n]; r.role ≠ .sensor ∧ r.channels ≠ 1) →
      exec (.nodeSet args) s = badArg "NODE_SET" "channels") ∧
    (∀ l, setFault [loopKey] loopCols .default args = none → loopArg args = some l →
      (let r := applyArgs loopCols args s.cfg.loops[l]; r.watchMargin - 10 < r.tripMargin) →
      args.find? (fun b => b.key = "watch_margin" ∨ b.key = "trip_margin") = some a → exec (.loopSet args) s = badArg "LOOP_SET" a.key) ∧
    (∀ c, setFault [coilKey] coilCols .default args = none → coilArg args = some c →
      let r := applyArgs coilCols args s.cfg.coils[c]
      (r.loop ≠ none → r.outletPt = none → exec (.coilSet args) s = badArg "COIL_SET" "outlet_pt") ∧
      (r.loop = none ∨ r.outletPt ≠ none → r.fanMax ≤ r.fanMin →
        args.find? (fun b => b.key = "fan_min" ∨ b.key = "fan_max") = some a → exec (.coilSet args) s = badArg "COIL_SET" a.key)) ∧
    (∀ k,
      (let r := applyArgs (siteCols s.cfg.chans) args s.cfg.site
       setFault [] (siteCols s.cfg.chans) s.cfg.site args = none → s.mayWrite (siteCols s.cfg.chans) args →
       firstRefused (s.siteRefuses r) args k → exec (.siteSet args) s = inState "SITE_SET" k) ∧
      (∀ n, let r := applyArgs nodeCols args s.cfg.nodes[n]
       setFault [nodeKey] nodeCols .default args = none → nodeArg args = some n → (r.role = .sensor ∨ r.channels = 1) →
       s.mayWrite nodeCols args → firstRefused (s.nodeRefuses n r) args k → exec (.nodeSet args) s = inState "NODE_SET" k) ∧
      (∀ l, let r := applyArgs loopCols args s.cfg.loops[l]
       setFault [loopKey] loopCols .default args = none → loopArg args = some l → r.tripMargin ≤ r.watchMargin - 10 →
       s.mayWrite loopCols args → firstRefused (s.loopRefuses l r) args k → exec (.loopSet args) s = inState "LOOP_SET" k) ∧
      (∀ c, let r := applyArgs coilCols args s.cfg.coils[c]
       setFault [coilKey] coilCols .default args = none → coilArg args = some c → coilCross r args = none →
       s.mayWrite coilCols args → firstRefused (s.coilRefuses c r) args k → exec (.coilSet args) s = inState "COIL_SET" k) ∧
      (∀ p, let r := applyArgs chanCols args s.cfg.chans[p]
       setFault [chanKey] chanCols .default args = none → chanArg args = some p → s.mayWrite chanCols args →
       firstRefused (s.chanRefuses p r) args k → exec (.pulseSet args) s = inState "PULSE_SET" k)) ∧
    ∀ why,
    (setFault [] (siteCols s.cfg.chans) s.cfg.site args = none → guarded (siteCols s.cfg.chans) why →
      exec (.siteSet args) s = .next (s.answered "SITE_SET" .refused why)) ∧
    (∀ n, setFault [nodeKey] nodeCols .default args = none → nodeArg args = some n →
      (let r := applyArgs nodeCols args s.cfg.nodes[n]; r.role = .sensor ∨ r.channels = 1) → guarded nodeCols why →
      exec (.nodeSet args) s = .next (s.answered "NODE_SET" .refused why)) ∧
    (∀ l, setFault [loopKey] loopCols .default args = none → loopArg args = some l →
      (let r := applyArgs loopCols args s.cfg.loops[l]; r.tripMargin ≤ r.watchMargin - 10) → guarded loopCols why →
      exec (.loopSet args) s = .next (s.answered "LOOP_SET" .refused why)) ∧
    (∀ c, setFault [coilKey] coilCols .default args = none → coilArg args = some c →
      coilCross (applyArgs coilCols args s.cfg.coils[c]) args = none → guarded coilCols why →
      exec (.coilSet args) s = .next (s.answered "COIL_SET" .refused why)) ∧
    (∀ p, setFault [chanKey] chanCols .default args = none → chanArg args = some p → guarded chanCols why →
      exec (.pulseSet args) s = .next (s.answered "PULSE_SET" .refused why)) ∧
    (∀ i, setFault [inputKey] inputCols .default args = none → inputArg args = some i → guarded inputCols why →
      exec (.inputSet args) s = .next (s.answered "INPUT_SET" .refused why))

/-- A SITE_SET, PULSE_SET or INPUT_SET that passes is written whole and answered OK; no other record changes. A write passes where its
form and range, its tiers and its mode and its conditions with other records do (R1, R2). A change of an outdoor source makes the outdoor
selection again, a change of source being traced (R3, R169), with keys that are the model's choice (assumption 15). A change of a channel's
mode or edge restarts its measurement, and a change of an input's level or role recomputes the plant conditions (R2, R3, R162, R165, R166,
R167).
A NODE_SET, LOOP_SET or COIL_SET that passes is written whole and answered OK, and no other record changes. A changed node record returns
the node as UNSEEN with its points ABSENT, and a node in WRONG_ROLE returns to UNSEEN even without a change (R2, R4; where the request names
its selector alone this is the model's choice, assumption 12). That a restart begins a gate at the present uptime second, in
which a pin at the active level counts from the instant it took that level or from the start of that second, is the model's reading (R163,
assumption 21).
The changes of a LOOP_SET that do not wait (R7): changed frost limits classify every coil of the loop again whose outlet point is FRESH
(R115); where its coils keep their laws (R99), a changed fan_step or shed_speed computes every desired fan speed of the loop anew (R87); a
changed rotate_interval starts the rotation timer with it where the loop is not IDLE (R80); after a changed kw_concurrency no queued coil
waits while there is room (R99).
A coil whose loop changes leaves its old roster and joins the end of the new one; an unassigned coil loses its override (R9). A change of
its loop or outlet point classifies it afresh (R114). -/
def Obligations.RecordWritesAreWhole : Prop :=
  (∀ (s : State) (args : List Arg), Ready s →
     (let r := applyArgs (siteCols s.cfg.chans) args s.cfg.site
      setFault [] (siteCols s.cfg.chans) s.cfg.site args = none → s.mayWrite (siteCols s.cfg.chans) args →
      (∀ b ∈ args, ¬ s.siteRefuses r b.key) →
      ∃ t, exec (.siteSet args) s = .next t ∧ s.replied t "SITE_SET" .ok [] ∧ t.cfg = { s.cfg with site := r } ∧ t.bus = s.bus ∧
        t.coils = s.coils ∧ t.loops = s.loops ∧ t.notedAs (s.sourceNoted s t.inputs.outdoor) ∧
        t.inputs = (if r.outdoorPt = s.cfg.site.outdoorPt ∧ r.outdoorPulse = s.cfg.site.outdoorPulse then s.inputs
          else { s.inputs with outdoor := t.selectOutdoor })) ∧
     (∀ p : ChanId,
       let old := s.cfg.chans[p]
       let r := applyArgs chanCols args old
       setFault [chanKey] chanCols .default args = none → chanArg args = some p → s.mayWrite chanCols args →
       (∀ b ∈ args, ¬ s.chanRefuses p r b.key) →
       ∃ t, exec (.pulseSet args) s = .next t ∧ s.replied t "PULSE_SET" .ok [] ∧ t.cfg.chans = s.cfg.chans.set p r ∧
         t.cfg.site = s.cfg.site ∧ t.cfg.loops = s.cfg.loops ∧ t.cfg.coils = s.cfg.coils ∧ t.cfg.nodes = s.cfg.nodes ∧
         t.cfg.inputs = s.cfg.inputs ∧
         (r.mode = old.mode → r.edge = old.edge → (t.inputs.chans)[p] = (s.inputs.chans)[p]) ∧
         (r.mode ≠ old.mode ∨ r.edge ≠ old.edge →
           let x := (t.inputs.chans)[p]
           x.status = (if r.mode = .off then .off else .silent) ∧ x.value = none ∧ x.count = 0 ∧ x.lastCount = 0 ∧
           x.lastEdge = none ∧ x.gateStart = s.uptime ∧ x.restartedAt = s.uptime ∧
           (let was := (s.inputs.chans)[p]
            x.pin = was.pin ∧ x.levelSince = was.levelSince ∧ x.activeTime = 0 ∧
            x.activeSince = if r.mode ≠ .off ∧ was.pin = decide (r.edge = .rise) then some (max was.levelSince (s.uptime * 1000000))
              else none))) ∧
     ∀ i : InputId,
       let old := s.cfg.inputs[i]
       let r := applyArgs inputCols args old
       setFault [inputKey] inputCols .default args = none → inputArg args = some i → s.mayWrite inputCols args →
       ∃ t, exec (.inputSet args) s = .next t ∧ s.replied t "INPUT_SET" .ok [] ∧ t.cfg.inputs = s.cfg.inputs.set i r ∧
         t.cfg.site = s.cfg.site ∧ t.cfg.loops = s.cfg.loops ∧ t.cfg.coils = s.cfg.coils ∧ t.cfg.nodes = s.cfg.nodes ∧
         t.cfg.chans = s.cfg.chans ∧ t.inputs.contacts = s.inputs.contacts ∧
         (r.activeHigh ≠ old.activeHigh ∨ r.role ≠ old.role →
           (t.inputs.plantStop = true ↔ ∃ j : InputId, (t.cfg.inputs[j]).role = .plantStop ∧
             ((t.inputs.contacts)[j]).debounced = (t.cfg.inputs[j]).activeHigh) ∧
           (t.inputs.snowWarn = true ↔ ∃ j : InputId, (t.cfg.inputs[j]).role = .snowWarn ∧
             ((t.inputs.contacts)[j]).debounced = (t.cfg.inputs[j]).activeHigh))) ∧
  (∀ (s : State) (args : List Arg), Ready s →
     (∀ n : NodeId,
       let old := s.cfg.nodes[n]
       let r := applyArgs nodeCols args old
       setFault [nodeKey] nodeCols .default args = none → nodeArg args = some n → (r.role = .sensor ∨ r.channels = 1) →
       s.mayWrite nodeCols args → (∀ b ∈ args, ¬ s.nodeRefuses n r b.key) →
       ∃ t, exec (.nodeSet args) s = .next t ∧ s.replied t "NODE_SET" .ok [] ∧ t.cfg.nodes = s.cfg.nodes.set n r ∧
         t.cfg.site = s.cfg.site ∧ t.cfg.loops = s.cfg.loops ∧ t.cfg.coils = s.cfg.coils ∧ t.cfg.chans = s.cfg.chans ∧
         t.cfg.inputs = s.cfg.inputs ∧
         (r ≠ old → (t.nodes[n]).state = .unseen ∧ (t.nodes[n]).miss = 0 ∧
           ∀ p : Fin 4, (((t.nodes[n]).points)[p]).fresh = .absent) ∧
         (r = old → (s.nodes[n]).state = .wrongRole → (t.nodes[n]).state = .unseen ∧ (t.nodes[n]).miss = 0) ∧
         (r = old → (s.nodes[n]).state ≠ .wrongRole → t.nodes = s.nodes)) ∧
     (∀ l : LoopId,
       let old := s.cfg.loops[l]
       let r := applyArgs loopCols args old
       let limits := r.freeze ≠ old.freeze ∨ r.watchMargin ≠ old.watchMargin ∨ r.tripMargin ≠ old.tripMargin ∨
         r.frostHyst ≠ old.frostHyst
       setFault [loopKey] loopCols .default args = none → loopArg args = some l → r.tripMargin ≤ r.watchMargin - 10 →
       s.mayWrite loopCols args → (∀ b ∈ args, ¬ s.loopRefuses l r b.key) →
       ∃ t, exec (.loopSet args) s = .next t ∧ s.replied t "LOOP_SET" .ok [] ∧ t.cfg.loops = s.cfg.loops.set l r ∧
         t.cfg.site = s.cfg.site ∧ t.cfg.nodes = s.cfg.nodes ∧ t.cfg.coils = s.cfg.coils ∧ t.cfg.chans = s.cfg.chans ∧
         t.cfg.inputs = s.cfg.inputs ∧ t.plans = s.plans ∧ t.overrides = s.overrides ∧
         (∀ (c : CoilId) v, limits → (s.cfg.coils[c]).loop = some l → s.freshAt (s.cfg.coils[c]).outletPt = some v →
           (t.frost[c]).value = some v ∧ (t.frost[c]).state = classify r (s.frost[c]).state v) ∧
         (∀ c : CoilId, ¬ limits ∨ (s.cfg.coils[c]).loop ≠ some l ∨ s.freshAt (s.cfg.coils[c]).outletPt = none →
           t.frost[c] = s.frost[c]) ∧
         (AllReachable s → LoopCoilLaw s l → r.fanStep ≠ old.fanStep ∨ r.shedSpeed ≠ old.shedSpeed → ∀ c : CoilId,
           (s.cfg.coils[c]).loop = some l → (s.coils[c]).service ≠ .dormant → (t.coils[c]).desiredFan = t.fanDemand c) ∧
         (t.units[l]).rotation = (if r.rotateInterval = old.rotateInterval ∨ (s.loops[l]).state = .idle then (s.units[l]).rotation
           else if r.rotateInterval = 0 then .stopped else .running r.rotateInterval) ∧
         (AllReachable s → r.kwConcurrency ≠ old.kwConcurrency → (s.loops[l]).state = .running ∨ (s.loops[l]).state = .failover →
           (t.units[l]).kwQueue = [] ∨ r.kwConcurrency ≤ (t.units[l]).kwCount)) ∧
     ∀ c : CoilId,
       let old := s.cfg.coils[c]
       let r := applyArgs coilCols args old
       setFault [coilKey] coilCols .default args = none → coilArg args = some c → coilCross r args = none →
       s.mayWrite coilCols args → (∀ b ∈ args, ¬ s.coilRefuses c r b.key) →
       ∃ t, exec (.coilSet args) s = .next t ∧ s.replied t "COIL_SET" .ok [] ∧ t.cfg.coils = s.cfg.coils.set c r ∧
         t.cfg.site = s.cfg.site ∧ t.cfg.nodes = s.cfg.nodes ∧ t.cfg.loops = s.cfg.loops ∧ t.cfg.chans = s.cfg.chans ∧
         t.cfg.inputs = s.cfg.inputs ∧ t.plans = s.plans ∧
         (r.loop = old.loop → r.outletPt = old.outletPt → t.frost = s.frost) ∧
         (r.loop ≠ old.loop ∨ r.outletPt ≠ old.outletPt →
           (∀ l v, r.loop = some l → s.freshAt r.outletPt = some v →
             (t.frost[c]).value = some v ∧ (t.frost[c]).state = classify (s.cfg.loops[l]) .unknown v) ∧
           (r.loop = none ∨ s.freshAt r.outletPt = none → (t.frost[c]).value = none ∧ (t.frost[c]).state = .unknown)) ∧
         (AllReachable s → r.loop = old.loop → t.cfg.rosters = s.cfg.rosters ∧ t.overrides = s.overrides) ∧
         (AllReachable s → r.loop ≠ old.loop →
           (∀ l, old.loop = some l → t.cfg.rosters[l] = (s.cfg.rosters[l]).filter fun d => d ≠ c) ∧
           (∀ l, r.loop = some l → t.cfg.rosters[l] = s.cfg.rosters[l] ++ [c]) ∧
           (r.loop = none → t.overrides[c] = none)))

/-! ## Part mode, identity, store, starts and resets (chapter 1) -/

/-- MODE_SET naming the mode the part is in is answered OK and changes nothing; MODE_SET mode=COMMISSION with SVC inactive is REFUSED
why=TIER (R11).
An accepted RESET is answered OK and waits for its reply's end; kind=ERASE with SVC inactive is REFUSED why=TIER (R21). -/
def Obligations.ModeSetAndResetAreChecked : Prop :=
  (∀ s : State, Ready s →
     (s.mode = .run → exec (.modeSetRun []) s = .next (s.answered "MODE_SET" .ok [])) ∧
     (s.inputs.svc.debounced = true →
       exec (.modeSetCommission []) s = .next (s.answered "MODE_SET" .refused [("why", .word "TIER")])) ∧
     (s.inputs.svc.debounced = false → s.mode = .commission →
       exec (.modeSetCommission []) s = .next (s.answered "MODE_SET" .ok []))) ∧
  (∀ s : State, Ready s →
     let waits := fun (k : ResetKind) =>
       Host.Outcome.next (({ s with link := { s.link with resetPending := some k } } : State).answered "RESET" .ok [])
     exec (.resetWarm []) s = waits .warm ∧ exec (.resetCold []) s = waits .cold ∧
     (s.inputs.svc.debounced = false → exec (.resetErase []) s = waits .erase) ∧
     (s.inputs.svc.debounced = true →
       exec (.resetErase []) s = .next (s.answered "RESET" .refused [("why", .word "TIER")])))

/-- The change to COMMISSION: every loop IDLE with its fan step, bypass, roles, runs and health kept and its timers stopped, every coil
DORMANT, ACTIVE plans PAUSED as by PLAN_PAUSE, both command queues empty, an emptied shadow SETTLED, and a command in flight without its
owner (R11, R13, R33, R44, R73, R108, R161). The loop summaries are those of loops none of whose coils is OUT (R121). MODE is traced and
raised, then each loop that was not IDLE traces its LOOP entry, and nothing else is traced or raised: no COMMAND_LOST is (R11, R13, R73).
The records, the identity, the store, the uptime, the overrides, the frost states, the inputs, the node table, the poller, the pass-through
slot and the notices that are enabled are kept, and the link takes the reply alone. The record of a DORMANT coil is that of a cold start but
for the frost state it was given: that it reads settled=no is the model's reading (assumption 30), and that an admission which ends here
leaves no reference is too (assumption 28). The order of the entries is the model's reading (assumption 31), and their keys are its choice
(assumption 15); so is that a plan whose elapsed has reached the end of its segment, before SEGMENT_END, stands one second below that end
(assumption 2). -/
def Obligations.CommissionStopsThePlant : Prop :=
  ∀ s : State, Ready s → s.mode = .run → s.inputs.svc.debounced = false →
    let moded := (s.event .part .mode [("old", .word "RUN"), ("new", .word "COMMISSION")]).raise .mode
    let noted := (List.finRange 4).foldl (fun n l => if (s.loops[l]).state = .idle then n else n.event (.loop l) .loop
      [("old", .word (s.loops[l]).state.name), ("new", .word "IDLE"), ("cause", .word "MODE")]) moded
    ∃ t, exec (.modeSetCommission []) s = .next t ∧
      t.link = { s.link with tx := s.link.tx ++ [.reply "MODE_SET" .ok [] none] } ∧ t.mode = .commission ∧ t.cfg = s.cfg ∧
      t.identity = s.identity ∧ t.store = s.store ∧ t.uptime = s.uptime ∧ t.overrides = s.overrides ∧ t.frost = s.frost ∧
      t.inputs = s.inputs ∧ t.pending = s.pending ∧ t.notedAs noted ∧ Source.mode ∈ t.notice.pending ∧
      t.notice.enabled = s.notice.enabled ∧
      (∀ l : LoopId,
        let x := s.loops[l]
        let y := t.loops[l]
        let p := s.plans[l]
        let cs := (List.finRange 16).filter fun d => (s.cfg.coils[d]).loop = some l
        y.state = .idle ∧ y.reason = none ∧ y.fanStep = x.fanStep ∧ y.bypass = x.bypass ∧ y.duty = x.duty ∧
        y.pumpA = { x.pumpA with unsent := false } ∧ y.pumpB = { x.pumpB with unsent := false } ∧ y.bypassUnsent = false ∧
        y.blind = false ∧ y.cold = false ∧ y.satWarm = false ∧ y.satCold = false ∧ y.blindCount = 0 ∧ y.holdoff = .stopped ∧
        y.proof = .stopped ∧ y.lowflow = .stopped ∧ y.tick = .stopped ∧ y.sampleCount = 0 ∧ y.configFault = false ∧ y.check = [] ∧
        t.plans[l] = (if p.state = .active then { p with state := .paused, elapsed := p.frozenElapsed } else p) ∧
        t.units[l] = { rotation := .stopped, deferred := false, kwQueue := [], kwCount := 0, shedQueue := [], permit := none,
                       lastSupply := (s.units[l]).lastSupply } ∧
        t.summaries[l] = (if ∃ d ∈ cs, (s.frost[d]).state = .trip then .tripped
          else if ∃ d ∈ cs, (s.frost[d]).state = .watch ∨ (s.frost[d]).state = .unknown then .guarded else .normal)) ∧
      (∀ c : CoilId, t.coils[c] = { CoilSt.cold0 with frostGiven := (s.coils[c]).frostGiven }) ∧
      t.bus = { s.bus with urgent := [], routine := [], flight := s.bus.flight.map fun f => { f with
        src := match f.src with
          | .command u k _ => .command u k true
          | src => src } } ∧
      ∀ n : NodeId, t.nodes[n] = { s.nodes[n] with
        shadow := if s.bus.queued n = true ∧ (s.nodes[n]).shadow.state = .queued
          then { (s.nodes[n]).shadow with state := .settled } else (s.nodes[n]).shadow }

/-- The change to RUN starts each loop in use that passes its start check, and reports started and failed loops; a loop that fails has fault
CONFIG and its list of failing items, in the order of the table as the lists of loops are by number (assumption 54), and stays IDLE as a
loop not in use does (R11, R12).
Where the part keeps the laws of COMMISSION (R11), of the rosters (R77) and of the bindings (R6), and no node is OFFLINE or WRONG_ROLE, the
regulator of a started loop has done its part: the roles swapped first where the duty pump is FAULTED and the standby SOUND, the duty pump
told to run and the standby to stop, the bypass at 100, the fan step 0, the four flags and the counts cleared, the holdoff and tick timers
started, and ROUTINE requests placed for the two run points and the bypass; it is STARTING with the proof timer started, or, where flow is
proved at once, RUNNING (R50 to R52).
Under these laws every coil takes its place: unassigned, it is OUT; in a loop that is not started, OUT where withdrawn and ISOLATED
otherwise, with no command and no timer (R12); that its desired valve position is then 0 where a valve node is bound, and none otherwise, is
the model's reading (assumption 30). In a loop that is started it is adopted: OUT where withdrawn; else FAULTED with cause NODE where a node
of its is OFFLINE or WRONG_ROLE; else SERVING with its valve commanded to 100 where the valve reads FRESH and at least 90; else ISOLATED with
its valve commanded to 0, and its keep-warm timer started (R81, R83, R98). -/
def Obligations.RunStartsThePassingLoops : Prop :=
  ∀ s : State, Ready s → s.mode = .commission →
    (∀ l : LoopId, s.startCheck l = [] ↔
      (∃ n, (s.cfg.loops[l]).pumpA = some n ∧ (s.cfg.nodes[n]).role = .pump) ∧
      (∃ n, (s.cfg.loops[l]).pumpB = some n ∧ (s.cfg.nodes[n]).role = .pump) ∧
      (∃ n, (s.cfg.loops[l]).bypass = some n ∧ (s.cfg.nodes[n]).role = .valve) ∧
      (s.cfg.loops[l]).supplyPt ≠ none ∧ ∃ c : CoilId, (s.cfg.coils[c]).loop = some l) ∧
    ∃ t, exec (.modeSetRun []) s = .next t ∧
      s.replied t "MODE_SET" .ok [("started", listVal (s.loopsStarted.map loopName)), ("failed", listVal (s.loopsFailed.map loopName))] ∧
      t.mode = .run ∧ Source.mode ∈ t.notice.pending ∧ t.plans = s.plans ∧ t.overrides = s.overrides ∧ t.cfg.coils = s.cfg.coils ∧
      (∀ l ∈ s.loopsStarted, (t.loops[l]).state ≠ .idle ∧ (t.loops[l]).configFault = false ∧ (t.loops[l]).check = []) ∧
      (∀ l ∈ s.loopsFailed, (t.loops[l]).configFault = true ∧ (t.loops[l]).check = s.startCheck l) ∧
      (∀ l : LoopId, l ∈ s.loopsFailed ∨ (s.cfg.loops[l]).inUse = false → (s.loops[l]).state = .idle → (t.loops[l]).state = .idle) ∧
      (ModeLaw s → RosterLaw s.cfg → BindingLaw s.cfg → AllReachable s → ∀ l ∈ s.loopsStarted, s.loopBegun t l) ∧
      (ModeLaw s → RosterLaw s.cfg → BindingLaw s.cfg → ∀ c : CoilId, s.coilPlaced t c)

/-- With the activity IDLE a STORE_SAVE is accepted, starts a save of the working copy as it stands with autorun taken from the part
mode, and is answered OK; with the activity SAVING the reply is BUSY and nothing changes (R17, R18). -/
def Obligations.StoreSaveStartsASave : Prop :=
  ∀ s : State, Ready s →
    (s.store.saving = none →
      let g := { s.cfg with site := { s.cfg.site with autorun := decide (s.mode = .run) } }
      exec (.storeSave []) s = .next (({ s with
        cfg := g
        store := { settings := .invalid, identity := s.store.identity, saving := some { settings := g, identity := none } } } : State
        ).answered "STORE_SAVE" .ok [])) ∧
    (s.store.saving.isSome = true → exec (.storeSave []) s = .next (s.answered "STORE_SAVE" .busy []))

/-- IDENTITY_SET writes site and cabinet and starts an identity save; with the identity SET it is REFUSED why=TIER, and during a save it is
BUSY, in that order (R15, R18).
A save completes: the section written becomes VALID where it matches and INVALID where it does not, the activity IDLE; an identity save that
matches makes the identity SET; a STORE event carries the results, and STORE is raised (R15, R18). With no save in progress the event has no
effect: the model's choice (assumption 2). That a section being written does not verify from the acceptance on, and that whether it verifies
comes with the event, is the model's too (assumption 25), and so are the keys result and identity of the STORE entry (assumption 15). -/
def Obligations.IdentityIsSavedAndSavesComplete : Prop :=
  (∀ (s : State) (args : List Arg) (site : String) (cabinet : Nat), Ready s → badArgOrdered identityKeys args = none →
     argOf args "site" = some site → (argOf args "cabinet").bind readInt = some (cabinet : Int) →
     (s.identity.set = true → exec (.identitySet args) s = .next (s.answered "IDENTITY_SET" .refused [("why", .word "TIER")])) ∧
     (s.identity.set = false → s.store.saving.isSome = true →
       exec (.identitySet args) s = .next (s.answered "IDENTITY_SET" .busy [])) ∧
     (s.identity.set = false → s.store.saving = none →
       let d : IdentityData := { site := site, cabinet := some cabinet }
       let g := { s.cfg with site := { s.cfg.site with autorun := decide (s.mode = .run) } }
       exec (.identitySet args) s = .next (({ s with
         cfg := g
         identity := { data := d, set := false }
         store := { settings := .invalid, identity := .invalid, saving := some { settings := g, identity := some d } } } : State
         ).answered "IDENTITY_SET" .ok []))) ∧
  (∀ (s : State) (okS okI : Bool), s.bus.lost = [] →
     let image := fun (g : Settings) => if okS = true then Section.valid g else .invalid
     let result := if okS = true then "VALID" else "INVALID"
     (s.store.saving = none → exec (.saveComplete okS okI) s = .next s) ∧
     (∀ g, s.store.saving = some { settings := g, identity := none } →
       exec (.saveComplete okS okI) s = .next
         ((({ s with store := { s.store with settings := image g, saving := none } } : State).event .store .store
           [("result", .word result)]).raise .store)) ∧
     ∀ g d, s.store.saving = some { settings := g, identity := some d } →
       exec (.saveComplete okS okI) s = .next
         ((({ s with
           store := { settings := image g, identity := if okI = true then .valid d else .invalid, saving := none }
           identity := { s.identity with set := s.identity.set || okI } } : State).event .store .store
           [("result", .word result), ("identity", .word (if s.identity.set || okI then "SET" else "BLANK"))]).raise .store))

/-- A warm reset clears the host link and the notice unit, the trace ring and the pass-through slot, which is emptied without a reply, and
keeps everything else (R22, R182, R193).
A start loads the settings section as the working copy where it verifies, and otherwise default records; the identity is loaded where its
section verifies. Every block takes its cold-start value: plans blank, no override, every coil in frost state UNKNOWN, a summary GUARDED for
a loop that has a coil, every node UNSEEN with its points ABSENT, both command queues empty, the bus at the record's rate, the channels whose
mode is not OFF restarted as SILENT, the debounced levels and the plant conditions from the pins, the outdoor temperature UNKNOWN, nothing
pending, the uptime 0. The ring holds the six PULSE entries and the MODE entry with cause START. A power-on samples the straps and the pins;
a cold start keeps the host rate and takes the pins as they stand; an erase does so with the image BLANK. With no autorun the part is in
COMMISSION, every loop IDLE and every coil DORMANT (R20, R23, R24, R45, R126, R161, R165, R172, R182, R183, R193).
With autorun it is in RUN with the loops started as by MODE_SET, with cause START: each loop that passes its start check is STARTING, the
others stay IDLE, every coil takes its place, also one that is commanded nothing (assumption 30), and nothing is raised (R12, R20, R121).
Round 0 begins; with every node NONE it ends as it begins (R148, assumption 24). A section that stands VALID verifies (assumption 25), the
entries' keys are the model's choice (assumption 15), and values the rules do not give are State.reset's (assumption 4).
That WARM_RESET, COLD_START and ERASE stand for the moment at which an accepted RESET of their kind has been answered in full, so that the
transmitter is empty, and have no effect where no such RESET waits, is the model's choice (assumption 26). -/
def Obligations.ResetsAndStartsSetEveryBlock : Prop :=
  (∀ s : State, s.bus.lost = [] →
    (s.link.resetPending = some .warm → exec .warmReset s = .next { s with
      trace := { h0 := { state := .filling, entries := [], serial := 1 }, h1 := { state := .free, entries := [], serial := 0 },
                 next := 2, writer := .writing .h0, missed := 0 }
      notice := { pending := [], enabled := [], due := false }
      link := { receiver := .idle, tx := [], answer := none, resetPending := none, rate := s.link.rate }
      bus := { s.bus with pass := .empty } }) ∧
    (s.link.resetPending ≠ some .warm → exec .warmReset s = .next s) ∧
    (s.link.resetPending ≠ some .cold → exec .coldStart s = .next s) ∧
    (s.link.resetPending ≠ some .erase → exec .erase s = .next s)) ∧
  (∀ s : State,
     let started := fun (g : Settings) (store : Store) (rate : Nat) (pulse : ChanId → Bool) (input : InputId → Bool) (svc : Bool) =>
       let active := fun k : InputRole => decide (∃ i : InputId, (g.inputs[i]).role = k ∧ input i = (g.inputs[i]).activeHigh)
       ({ State.reset with
           cfg := g
           identity := (match store.identity with
             | .valid d => { data := d, set := true }
             | _ => { data := { site := "", cabinet := none }, set := false })
           store := { store with saving := none }
           summaries := Vector.ofFn fun l => if ∃ c : CoilId, (g.coils[c]).loop = some l then .guarded else .normal
           bus := { State.reset.bus with
             rate := g.site.busRate
             poller := if ∃ n : NodeId, (g.nodes[n]).role ≠ .none then { round := 0, phase := .waiting, node := 0, step := 0 }
               else { round := 1, phase := .spacing (max 1 g.site.roundSpacing), node := 0, step := 0 } }
           inputs := { Inputs.reset with
             chans := Vector.ofFn fun p =>
               let r := g.chans[p]
               { Chan.off0 with
                 pin := pulse p
                 status := if r.mode = .off then .off else .silent
                 activeSince := if r.mode ≠ .off ∧ (pulse p = true ↔ r.edge = .rise) then some 0 else none }
             contacts := Vector.ofFn fun i => ⟨input i, input i, none⟩
             svc := ⟨svc, svc, none⟩
             plantStop := active .plantStop
             snowWarn := active .snowWarn }
           link := { State.reset.link with rate := rate }
           pending := s.pending } : State)
     let powered := fun (g : Settings) (pins : PinLevels) => started g s.store
       (match pins.strap2, pins.strap1 with
        | false, true => 57600
        | true, false => 115200
        | _, _ => 19200)
       (fun p => pins.pulses.getLsbD p.val) (fun i => pins.inputs.getLsbD i.val) pins.svc
     let again := fun (g : Settings) (store : Store) => started g store s.link.rate (fun p => ((s.inputs.chans)[p]).pin)
       (fun i => ((s.inputs.contacts)[i]).pin) s.inputs.svc.pin
     (∀ g, (s.store.settings = .blank ∨ s.store.settings = .invalid) ∧ g = .default ∨ s.store.settings = .valid g ∧ g.site.autorun = false →
       (∀ pins : PinLevels, exec (.powerOn pins) s = .next (powered g pins)) ∧
       (s.link.resetPending = some .cold → exec .coldStart s = .next (again g s.store))) ∧
     (s.link.resetPending = some .erase →
       exec .erase s = .next (again .default { settings := .blank, identity := .blank, saving := none })) ∧
     ∀ (g : Settings) (c : Instr) (t0 : State), s.store.settings = .valid g → g.site.autorun = true →
       (∃ pins, c = .powerOn pins ∧ t0 = powered g pins) ∨
         (c = .coldStart ∧ s.link.resetPending = some .cold ∧ t0 = again g s.store) →
       ∃ t, exec c s = .next t ∧
         t = { t0 with
           mode := .run
           loops := t.loops
           units := t.units
           coils := t.coils
           summaries := t.summaries
           bus := { t0.bus with routine := t.bus.routine }
           nodes := Vector.ofFn fun n => { t0.nodes[n] with shadow := (t.nodes[n]).shadow }
           trace := (t0.loopsStarted.foldl (fun n l => n.event (.loop l) .loop
             [("old", .word "IDLE"), ("new", .word "STARTING"), ("cause", .word "START")]) t0).trace } ∧
         (∀ l : LoopId,
           (l ∉ t0.loopsStarted → t.units[l] = .cold0 ∧ t.loops[l] =
             if l ∈ t0.loopsFailed then { LoopSt.cold0 with configFault := true, check := t0.startCheck l } else .cold0) ∧
           (l ∈ t0.loopsStarted → (t.loops[l]).state = .starting ∧ (t.loops[l]).configFault = false ∧ (t.loops[l]).check = [] ∧
             t.units[l] = { LoopCoils.cold0 with rotation :=
               if (g.loops[l]).rotateInterval = 0 then .stopped else .running (g.loops[l]).rotateInterval })) ∧
         (RosterLaw g → BindingLaw g → (∀ l ∈ t0.loopsStarted, t0.loopBegun t l) ∧ (∀ c : CoilId, t0.coilPlaced t c) ∧
           ∀ l : LoopId, t.summaries[l] =
             if ∃ c : CoilId, (g.coils[c]).loop = some l ∧ (g.coils[c]).withdrawn = false then .guarded else .normal))

/-! ## Setpoint plans (chapter 2) -/

/-- PLAN_PUT fills a slot outside the live range with the segment it gives, ramp 0 and notify no where they are omitted; a live slot is
REFUSED why=LIVE_SLOT, and min_coils above max_coils BADARG key=max_coils. Nothing else changes (R26). -/
def Obligations.PlanPutFillsASlot : Prop :=
  ∀ (s : State) (args : List Arg) (l : LoopId) (i : SlotId) (g : Segment), Ready s → badArg planPutKeys args = none →
    loopArg args = some l → (argOf args "slot").bind readSlot = some i →
    (argOf args "target").bind readTemp = some g.target → (argOf args "band").bind readTemp = some g.band →
    (argOf args "ceiling").bind readInt = some (g.ceiling : Int) → (argOf args "min_coils").bind readInt = some (g.minCoils : Int) →
    (argOf args "max_coils").bind readInt = some (g.maxCoils : Int) → (argOf args "duration").bind readInt = some (g.duration : Int) →
    ((argOf args "ramp" = none ∧ g.ramp = 0) ∨ (argOf args "ramp").bind readInt = some (g.ramp : Int)) →
    ((argOf args "notify" = none ∧ g.notify = false) ∨ (argOf args "notify").bind readYesNo = some g.notify) →
    let p := s.plans[l]
    let live := p.state ≠ .empty ∧ (i - p.cur).val ≤ (p.last - p.cur).val
    (g.maxCoils < g.minCoils → exec (.planPut args) s = .next (s.answered "PLAN_PUT" .badArg [("key", .word "max_coils")])) ∧
    (g.minCoils ≤ g.maxCoils → live →
      exec (.planPut args) s = .next (s.answered "PLAN_PUT" .refused [("why", .word "LIVE_SLOT")])) ∧
    (g.minCoils ≤ g.maxCoils → ¬ live → exec (.planPut args) s = .next (({ s with
      plans := s.plans.set l { p with slots := p.slots.set i (some g) } } : State).answered "PLAN_PUT" .ok []))

/-- PLAN_COMMIT refuses a live slot and the first unfilled slot on the way to it. On an EMPTY plan it makes the live range, PAUSED, with
ramp start the target in force; otherwise it moves LAST; where that makes a successor it is checked ahead, a failing check being traced as
PREPARE and raising PLAN; a HOLDING plan ends its segment at once into ACTIVE, traced as SEGMENT with cause COMMIT, which raises no PLAN for
notify (R28, R29, R31, R35, R36). Where a segment comes into force, by the first commit or by that advance, the desired fan speed of each coil
of the loop that is not DORMANT is computed anew under its ceiling, a change being sent ROUTINE; otherwise no coil changes (R87). The keys of
the SEGMENT and PREPARE entries are the model's choice (assumption 15). -/
def Obligations.PlanCommitMovesLast : Prop :=
  ∀ (s : State) (args : List Arg) (l : LoopId) (i : SlotId), Ready s → badArg [loopKey, slotKey "last"] args = none →
    loopArg args = some l → (argOf args "last").bind readSlot = some i →
    let p := s.plans[l]
    let live := p.state ≠ .empty ∧ (i - p.cur).val ≤ (p.last - p.cur).val
    let start := if p.state = .empty then p.cur else p.last + 1
    let onWay := fun k : SlotId => (k - start).val ≤ (i - start).val
    let enters := p.state = .empty ∨ (p.state = .holding ∧ s.slotVerdict l p (p.cur + 1) = .pass)
    (live → exec (.planCommit args) s = .next (s.answered "PLAN_COMMIT" .refused [("why", .word "LIVE_SLOT")])) ∧
    (∀ n : SlotId, ¬ live → onWay n → (p.slots)[n] = none →
      (∀ k : SlotId, onWay k → (k - start).val < (n - start).val → ((p.slots)[k]).isSome = true) →
      exec (.planCommit args) s = .next (s.answered "PLAN_COMMIT" .refused [("why", .word "UNFILLED"), ("slot", .int n.val)])) ∧
    (¬ live → (∀ k : SlotId, onWay k → ((p.slots)[k]).isSome = true) →
      ∃ t, exec (.planCommit args) s = .next t ∧ s.replied t "PLAN_COMMIT" .ok (planReport t.plans[l]) ∧ t.cfg.coils = s.cfg.coils ∧
        (∀ m : LoopId, m ≠ l → t.plans[m] = s.plans[m]) ∧ (enters → AllReachable s → s.fansAnew t l) ∧
        (¬ enters → t.coils = s.coils ∧ t.bus = s.bus) ∧
        (p.state = .empty → t.plans[l] = s.aheadOf l
          { p with last := i, state := .paused, elapsed := 0, rampStart := some (s.cfg.loops[l]).fallbackTarget }) ∧
        (p.state = .holding → t.plans[l] = s.endedPlan l .active { p with last := i, state := .active }) ∧
        (p.state ≠ .empty → p.state ≠ .holding → t.plans[l] =
          (if p.cur = p.last then s.aheadOf l { p with last := i } else { p with last := i })) ∧
        (AllReachable s → t.notedAs
          (if p.state = .holding then s.endNoted l "COMMIT" { p with last := i }
           else if p.state = .empty ∨ p.cur = p.last then s.aheadNoted l { p with last := i } else s)))

/-- PLAN_RUN by the plan's state: EMPTY is REFUSED why=STATE; PAUSED becomes ACTIVE; ACTIVE and HOLDING stay; STOPPED advances where its
successor passes, traced with cause RUN, and is REFUSED why=PREPARE with slot and reason, with nothing changed, where it fails (R31, R35,
R37). The keys of the SEGMENT and PREPARE entries are the model's choice (assumption 15).
PLAN_PAUSE makes an ACTIVE plan PAUSED with its elapsed and ramp as they stand, or, where the second that brings elapsed to the end of its
segment has passed and the end itself has not, with elapsed below that end, which is the pause taken first (R33, R38); that it then stands
one second below is the model's choice (assumption 2). In any other state the reply is OK and nothing changes (R38).
PLAN_CLEAR empties the ring of a plan that is not ACTIVE; an ACTIVE plan is REFUSED why=STATE (R40).
Where the plan advances or is emptied, the ceiling in force may change, and the desired fan speed of each coil of the loop that is not DORMANT
is computed anew, a change being sent ROUTINE (R87). -/
def Obligations.PlanRunPauseAndClear : Prop :=
  (∀ (s : State) (l : LoopId), Ready s →
     let p := s.plans[l]
     let outcome := exec (.planRun [kv "loop" (loopName l)]) s
     let v := s.slotVerdict l p (p.cur + 1)
     (p.state = .empty → outcome = .next (s.answered "PLAN_RUN" .refused [("why", .word "STATE")])) ∧
     (p.state = .paused → outcome = .next (({ s with plans := s.plans.set l { p with state := .active } } : State).answered
       "PLAN_RUN" .ok [])) ∧
     (p.state = .active ∨ p.state = .holding → outcome = .next (s.answered "PLAN_RUN" .ok [])) ∧
     (p.state = .stopped → v = .pass → ∃ t, outcome = .next t ∧ s.replied t "PLAN_RUN" .ok [] ∧
       t.plans[l] = s.endedPlan l .active p ∧ (∀ m : LoopId, m ≠ l → t.plans[m] = s.plans[m]) ∧
       (AllReachable s → t.notedAs (s.endNoted l "RUN" p) ∧ s.fansAnew t l) ∧
       ∀ g, (p.slots)[p.cur] = some g → g.notify = true → Source.plan ∈ t.notice.pending) ∧
     (p.state = .stopped → v ≠ .pass → outcome = .next (s.answered "PLAN_RUN" .refused
       [("why", .word "PREPARE"), ("slot", .int (p.cur + 1).val), ("reason", .word v.name)]))) ∧
  (∀ (s : State) (l : LoopId), Ready s →
     ((s.plans[l]).state = .active → exec (.planPause [kv "loop" (loopName l)]) s =
       .next (({ s with plans := s.plans.set l { s.plans[l] with state := .paused, elapsed := (s.plans[l]).frozenElapsed } } :
         State).answered "PLAN_PAUSE" .ok [])) ∧
     ((s.plans[l]).state ≠ .active → exec (.planPause [kv "loop" (loopName l)]) s = .next (s.answered "PLAN_PAUSE" .ok []))) ∧
  (∀ (s : State) (l : LoopId), Ready s →
     ((s.plans[l]).state = .active → exec (.planClear [kv "loop" (loopName l)]) s =
       .next (s.answered "PLAN_CLEAR" .refused [("why", .word "STATE")])) ∧
     ((s.plans[l]).state ≠ .active → ∃ t, exec (.planClear [kv "loop" (loopName l)]) s = .next t ∧ s.replied t "PLAN_CLEAR" .ok [] ∧
       t.plans = s.plans.set l
         { slots := Vector.replicate 8 none, state := .empty, cur := 0, last := 0, prep := 0, verdict := .none, elapsed := 0,
           rampStart := none } ∧
       (AllReachable s → s.fansAnew t l) ∧ t.overrides = s.overrides ∧ t.inputs = s.inputs ∧ t.cfg.coils = s.cfg.coils))

/-- A segment ends by PLAN_SKIP in ACTIVE or PAUSED, or by its duration in ACTIVE: on LAST the plan becomes HOLDING, traced with its slot,
and PLAN is raised; otherwise the successor is checked, and the plan advances or is STOPPED. An advance is traced as SEGMENT with the slot,
the new CUR and its cause, and raises PLAN where the finished segment asks for it; a failing check is traced as PREPARE with its slot,
reason and stage, and raises PLAN. A skip keeps the plan's state on an advance, and is REFUSED why=STATE in the other states (R31, R32, R35,
R36, R39). At an advance the desired fan speed of each coil of the loop that is not DORMANT is computed anew under the new ceiling, a change
being sent ROUTINE; an end that stops the plan changes no coil (R87). An event before the time has run out has no effect: the model's choice (assumption 2), and so are the keys of the HOLDING,
SEGMENT and PREPARE entries (assumption 15). -/
def Obligations.SegmentsEnd : Prop :=
  ∀ (s : State) (l : LoopId),
    let p := s.plans[l]
    let held := (({ s with plans := s.plans.set l { p with state := .holding } } : State).event (.loop l) .holding
      [("slot", .int p.cur.val)]).raise .plan
    let due := p.state = .active ∧ ∃ g, (p.slots)[p.cur] = some g ∧ g.duration ≠ 0 ∧ g.duration * 60 ≤ p.elapsed
    let noted := fun t : State => ∀ g, (p.slots)[p.cur] = some g → g.notify = true → s.slotVerdict l p (p.cur + 1) = .pass →
      Source.plan ∈ t.notice.pending
    let fans := fun t : State => (s.slotVerdict l p (p.cur + 1) = .pass → AllReachable s → s.fansAnew t l) ∧
      (s.slotVerdict l p (p.cur + 1) ≠ .pass → t.coils = s.coils ∧ t.bus = s.bus)
    (s.bus.lost = [] →
      (¬ due → exec (.segmentEnd l) s = .next s) ∧
      (due → p.cur = p.last → exec (.segmentEnd l) s = .next held) ∧
      (due → p.cur ≠ p.last → ∃ t, exec (.segmentEnd l) s = .next t ∧ t.link = s.link ∧ t.plans[l] = s.endedPlan l .active p ∧
        (∀ m : LoopId, m ≠ l → t.plans[m] = s.plans[m]) ∧ noted t ∧ fans t ∧
        (AllReachable s → t.notedAs (s.endNoted l "END" p)))) ∧
    (Ready s →
      let outcome := exec (.planSkip [kv "loop" (loopName l)]) s
      (p.state ≠ .active → p.state ≠ .paused → outcome = .next (s.answered "PLAN_SKIP" .refused [("why", .word "STATE")])) ∧
      (p.state = .active ∨ p.state = .paused → p.cur = p.last → outcome = .next (held.answered "PLAN_SKIP" .ok
        (("skipped", .int p.cur.val) :: planReport { p with state := .holding }))) ∧
      (p.state = .active ∨ p.state = .paused → p.cur ≠ p.last → ∃ t, outcome = .next t ∧
        t.plans[l] = s.endedPlan l p.state p ∧ (∀ m : LoopId, m ≠ l → t.plans[m] = s.plans[m]) ∧ noted t ∧ fans t ∧
        (AllReachable s → t.notedAs (s.endNoted l "SKIP" p)) ∧
        s.replied t "PLAN_SKIP" .ok (("skipped", .int p.cur.val) :: planReport t.plans[l])))

/-- One second of uptime: plan time runs in RUN for a plan that is ACTIVE, HOLDING or STOPPED, every running timer of whole seconds counts
down, a paused one does not, and nothing else changes (R30). That the event counts every timer, down to 0 and no further, is the model's
reading (assumption 2). -/
def Obligations.SecondsPass : Prop :=
  ∀ s : State, s.bus.lost = [] → ∃ t, exec .uptimeSecond s = .next t ∧ t.uptime = s.uptime + 1 ∧
    (∀ l : LoopId,
      let p := s.plans[l]
      t.plans[l] = (if s.mode = .run ∧ (p.state = .active ∨ p.state = .holding ∨ p.state = .stopped)
        then { p with elapsed := p.elapsed + 1 } else p) ∧
      t.loops[l] = { s.loops[l] with holdoff := (s.loops[l]).holdoff.tick, proof := (s.loops[l]).proof.tick,
                                     lowflow := (s.loops[l]).lowflow.tick, tick := (s.loops[l]).tick.tick } ∧
      t.units[l] = { s.units[l] with rotation := (s.units[l]).rotation.tick }) ∧
    (∀ c : CoilId,
      let x := s.coils[c]
      let down := match x.rundown with
        | .running (n + 1) => RundownTimer.running n
        | r => r
      t.coils[c] = { x with stroke := x.stroke.tick, dwell := x.dwell.tick, admission := x.admission.tick, skip := x.skip.tick,
                            rundown := down, kwTimer := x.kwTimer.tick, kwDwell := x.kwDwell.tick, shed := x.shed.tick,
                            cooldown := x.cooldown.tick }) ∧
    (∀ n, (Timer.running (n + 1)).tick = .running n ∧ (Timer.paused n).tick = .paused n) ∧ Timer.stopped.tick = .stopped ∧
    (Timer.running 0).tick = .running 0 ∧
    t.bus = { s.bus with
      line := match s.bus.line with
        | .down n => .down (n - 1)
        | .up => .up
      pass := match s.bus.pass with
        | .waiting r n => .waiting r (n - 1)
        | p => p
      poller := { s.bus.poller with phase := match s.bus.poller.phase with
        | .spacing n => .spacing (n - 1)
        | .waiting => .waiting } } ∧
    t.mode = s.mode ∧ t.cfg = s.cfg ∧ t.identity = s.identity ∧ t.store = s.store ∧ t.overrides = s.overrides ∧ t.frost = s.frost ∧
    t.summaries = s.summaries ∧ t.nodes = s.nodes ∧ t.inputs = s.inputs ∧ t.trace = s.trace ∧ t.notice = s.notice ∧ t.link = s.link ∧
    t.pending = s.pending

/-! ## Loops and pumps (chapter 3) -/

/-- PUMP_CLEAR makes the pump SOUND and answers OK in every loop state and both modes; a change traces a PUMP event with cause CLEAR and
raises nothing; role and desired run stay. A missing or unknown loop or pump is BADARG naming the key (R61).
PUMP_SWAP in RUNNING with a SOUND standby enters FAILOVER with reason PLANNED: the standby is told to run and the proof timer starts; where
its status already reads RUNNING and the meter, if there is one, does not fail it, the roles swap at once and the loop is RUNNING with the
old duty pump off. Otherwise it is REFUSED why=STATE (R50, R57). That the reply is FAILOVER, PLANNED also where the swap completes at once
(assumption 18), and the keys of the PUMP entry (assumption 15), are the model's choice. -/
def Obligations.PumpClearAndPumpSwap : Prop :=
  (∀ (s : State) (l : LoopId), Ready s →
     (∀ p : PumpId,
       let outcome := exec (.pumpClear [kv "loop" (loopName l), kv "pump" p.name]) s
       let q := (s.loops[l]).pump p
       (q.faulted = false → outcome = .next (s.answered "PUMP_CLEAR" .ok [])) ∧
       (q.faulted = true → outcome = .next ((({ s with
         loops := s.loops.set l ((s.loops[l]).modPump p fun _ => { q with faulted := false }) } : State).event (.loop l) .pump
           [("pump", .word p.name), ("health", .word "SOUND"), ("cause", .word "CLEAR")]).answered "PUMP_CLEAR" .ok []))) ∧
     (∀ v, readLoop v = none → ∀ p : PumpId, exec (.pumpClear [kv "loop" v, kv "pump" p.name]) s =
       .next (s.answered "PUMP_CLEAR" .badArg [("key", .word "loop")])) ∧
     (∀ v, v ≠ "A" → v ≠ "B" → exec (.pumpClear [kv "loop" (loopName l), kv "pump" v]) s =
       .next (s.answered "PUMP_CLEAR" .badArg [("key", .word "pump")])) ∧
     exec (.pumpClear [kv "loop" (loopName l)]) s = .next (s.answered "PUMP_CLEAR" .badArg [("key", .word "pump")]) ∧
     ∀ p : PumpId, exec (.pumpClear [kv "pump" p.name]) s = .next (s.answered "PUMP_CLEAR" .badArg [("key", .word "loop")])) ∧
  (∀ (s : State) (l : LoopId), Ready s →
     let x := s.loops[l]
     let y := x.duty.other
     let outcome := exec (.pumpSwap [kv "loop" (loopName l)]) s
     (x.state ≠ .running ∨ (x.pump y).faulted = true →
       outcome = .next (s.answered "PUMP_SWAP" .refused [("why", .word "STATE")])) ∧
     (x.state = .running → (x.pump y).faulted = false → AllReachable s →
       ∃ t, outcome = .next t ∧ s.replied t "PUMP_SWAP" .ok [("state", .word "FAILOVER"), ("reason", .word "PLANNED")] ∧
         t.plans = s.plans ∧ t.cfg = s.cfg ∧ ((t.loops[l]).pump y).run = true ∧ (t.loops[l]).lowflow = .stopped ∧
         (s.pumpStatus l y ≠ some 1 ∨ s.flowTest l = some false →
           (t.loops[l]).state = .failover ∧ (t.loops[l]).reason = some .planned ∧ (t.loops[l]).duty = x.duty ∧
           (t.loops[l]).proof = .running (s.cfg.loops[l]).prove ∧ ((t.loops[l]).pump x.duty).run = (x.pump x.duty).run) ∧
         (s.pumpStatus l y = some 1 → s.flowTest l ≠ some false →
           (t.loops[l]).state = .running ∧ (t.loops[l]).reason = none ∧ (t.loops[l]).duty = y ∧ (t.loops[l]).proof = .stopped ∧
           ((t.loops[l]).pump x.duty).run = false)))

/-- The proof timer's expiry. In STARTING the duty pump is FAULTED: with a SOUND standby the loop enters FAILOVER for FAULT, with the standby
told to run and the duty pump off, and the proof timer starts anew, unless flow is proved for the candidate at that moment: then the
roles swap in the same event and the loop is RUNNING on it, the pump that failed off and FAULTED (R50, R56). With none it enters FLOWLOSS
with both pumps told to run and the fan step 0. In FAILOVER for FAULT the candidate is FAULTED and the loop enters FLOWLOSS; in a planned
one the candidate is FAULTED and off, and the loop is RUNNING as before (R52, R56, R57, R59). The low-flow timer's expiry in RUNNING
faults the duty pump likewise (R53, R54).
The end of a flow loss: the pump whose status reads RUNNING, A first, else the duty pump, becomes SOUND and DUTY, the other is told to stop,
the loop is RUNNING, and PUMP is raised (R60).
Where the coils keep their laws, these changes move the coils of the loop, and no other coil. FAILOVER ends shedding, empties the shed queue
and pauses the dwell and admission timers; RUNNING resumes them, the dwell only where the admission is not HELD, and closes a retirement
whose rundown waits; both serve the keep-warm queue. FLOWLOSS ends shedding, aborts an admission and ends every cycle into ISOLATED with
valve 0 sent URGENT, empties both queues, and sends fan changes URGENT; the coils it leaves ISOLATED from a cycle, an admission or the queue
start their keep-warm timers (R59, R93, R96, R98 to R100, R104). That an abort clears the admit reference is the model's reading (assumption
28). -/
def Obligations.PumpFaultsAndTheEndOfAFlowLoss : Prop :=
  (∀ (s : State) (l : LoopId), Calm s →
     let x := s.loops[l]
     let d := x.duty
     let y := x.duty.other
     let others := fun t : State => ∀ c : CoilId, (s.cfg.coils[c]).loop ≠ some l → t.coils[c] = s.coils[c]
     ((x.proof.isRunning = true ∧ x.state = .starting) ∨ (x.lowflow.isRunning = true ∧ x.state = .running) →
       let c := if x.state = .starting then Instr.proofTimeout l else .lowflowExpiry l
       ((x.pump y).faulted = false → ∃ t, exec c s = .next t ∧ others t ∧ (s.proved l y = false → s.failedOver t l) ∧
         (s.proved l y = true → s.failedOverAtOnce t l) ∧ ((x.pump d).faulted = false → Source.pump ∈ t.notice.pending)) ∧
       ((x.pump y).faulted = true → ∃ t, exec c s = .next t ∧ others t ∧ s.flowLost t l .stopped ∧
         ((t.loops[l]).pump d).faulted = true)) ∧
     (x.proof.isRunning = true → x.state = .failover → x.reason = some .fault →
       ∃ t, exec (.proofTimeout l) s = .next t ∧ others t ∧ s.flowLost t l .stopped ∧ ((t.loops[l]).pump y).faulted = true) ∧
     (x.proof.isRunning = true → x.state = .failover → x.reason = some .planned →
       ∃ t, exec (.proofTimeout l) s = .next t ∧ others t ∧ s.swapFailed t l)) ∧
  (∀ (s : State) (l : LoopId), Calm s → (s.loops[l]).state = .flowloss → (s.loops[l]).proof.isRunning = true →
     let p := if s.pumpStatus l .a = some 1 then PumpId.a else if s.pumpStatus l .b = some 1 then .b else (s.loops[l]).duty
     ∃ t, exec (.flowlossEnd l) s = .next t ∧ t.link = s.link ∧ t.plans = s.plans ∧ t.cfg.coils = s.cfg.coils ∧
       (t.loops[l]).state = .running ∧ (t.loops[l]).duty = p ∧ ((t.loops[l]).pump p).faulted = false ∧
       ((t.loops[l]).pump p).run = ((s.loops[l]).pump p).run ∧ ((t.loops[l]).pump p.other).run = false ∧
       ((t.loops[l]).pump p.other).faulted = ((s.loops[l]).pump p.other).faulted ∧ (t.loops[l]).proof = .stopped ∧
       Source.pump ∈ t.notice.pending ∧ (LoopCoilLaw s l → s.coilsFollow t l false true) ∧
       ∀ c : CoilId, (s.cfg.coils[c]).loop ≠ some l → t.coils[c] = s.coils[c])

/-- Flow is the FRESH flow point or a VALID channel in COUNT mode; it is proved by the meter where it is known and min_flow is above 0, and
by the status of the pump under proof otherwise (R49, R50).
The proof is evaluated at a loop tick, the end of a gate of the flow channel, a reading of the flow point or of a pump's status point, and
the fall of either from FRESH to STALE. Proof takes a loop from STARTING to RUNNING, and from FAILOVER to RUNNING with the candidate as duty
pump; in a planned one the candidate's status must read RUNNING and the flow not be low, and the old duty pump is told to stop. Without proof
the loop waits on. In FLOWLOSS the proof timer is started when the condition holds, with either pump under proof, and stopped when it fails.
In RUNNING the low-flow timer runs on, or is started, while flow is known and below min_flow, and is stopped otherwise (R50, R52, R54, R56,
R57, R60, R62).
A status reading of FAULT makes the pump FAULTED and raises PUMP. The duty pump's in STARTING or RUNNING takes the loop to FAILOVER for FAULT
with a SOUND standby, else to FLOWLOSS; the candidate's in FAILOVER takes it to FLOWLOSS, or, in a planned one, back to RUNNING as before
(R52, R53, R56, R57, R59). The standby's leaves a RUNNING loop as it is; either's leaves a FLOWLOSS one so; the old duty pump's in a planned
failover makes the reason FAULT, tells it to stop and the candidate, URGENT, to run, the proof timer going on (R55, R58, R59); in one for
FAULT it keeps its health, also where PUMP_CLEAR has made it SOUND (R56, assumption 38). That the reading is itself evaluated as a proof in
the state it produced is the model's choice (assumption 49); what a tick evaluates is its reading (assumption 29). Each change moves the
coils of the loop, where they keep their laws, as in PumpFaultsAndTheEndOfAFlowLoss, but for a change at a tick, which evaluates the hold
too. A reading may be that of a pass-through READ, whose end places the reply of BUS_PASS (R158). -/
def Obligations.FlowIsProved : Prop :=
  (∀ (s : State) (l : LoopId) (p : PumpId),
     let r := s.cfg.loops[l]
     (∀ v, s.flow l = some v → 0 < r.minFlow → (s.proved l p = true ↔ (r.minFlow : Int) ≤ v)) ∧
     (s.flow l = none ∨ r.minFlow = 0 → (s.proved l p = true ↔ s.pumpStatus l p = some 1)) ∧
     (∀ n, r.pumpNode p = some n → s.pumpStatus l p = s.freshAt (some ⟨n, 1⟩)) ∧ (r.pumpNode p = none → s.pumpStatus l p = none) ∧
     (r.flowSrc = none → s.flow l = none) ∧ (∀ pt, r.flowSrc = some (.point pt) → s.flow l = s.freshAt (some pt)) ∧
     (∀ ch, r.flowSrc = some (.pulse ch) →
       let valid := (s.cfg.chans[ch]).mode = .count ∧ ((s.inputs.chans)[ch]).status = .valid
       (valid → s.flow l = (((s.inputs.chans)[ch]).value).map Int.ofNat) ∧ (¬ valid → s.flow l = none))) ∧
  (∀ (s : State) (l : LoopId) (c : Instr), Calm s →
     let r := s.cfg.loops[l]
     let x := s.loops[l]
     let d := x.duty
     let y := x.duty.other
     let flows := (c = .loopTick l ∧ x.tick.isRunning = true) ∨
       (∃ ch, c = .gateEnd ch ∧ r.flowSrc = some (.pulse ch) ∧ (s.cfg.chans[ch]).mode ≠ .off ∧
         ((s.inputs.chans)[ch]).gateStart < s.uptime) ∨
       ∃ n p, r.flowSrc = some (.point ⟨n, p⟩) ∧ soleUse s.cfg n p ∧ ((∃ v, s.readBy c n p v) ∨ s.agesBy c n p)
     let status := ∃ q n, r.pumpNode q = some n ∧ pumpOnly s.cfg n ∧ ((∃ v, v ≠ 3 ∧ s.readBy c n 1 v) ∨ s.agesBy c n 1)
     flows ∨ status → ∃ t, exec c s = .next t ∧ s.linkAfterReading t c ∧ t.plans = s.plans ∧
       (let z := t.loops[l]
        let low := ∃ v, t.flow l = some v ∧ 0 < r.minFlow ∧ v < (r.minFlow : Int)
        let either := t.proved l .a = true ∨ t.proved l .b = true
        let both := t.pumpStatus l y = some 1 ∧ ¬ low
        let runs := fun p : PumpId => z.state = .running ∧ z.reason = none ∧ z.duty = p ∧ z.proof = .stopped ∧ z.lowflow = .stopped ∧
          (c ≠ .loopTick l → LoopCoilLaw s l → s.coilsFollow t l false true)
        let waits := z.state = x.state ∧ z.reason = x.reason ∧ z.duty = d ∧ z.proof = x.proof
        (x.state = .starting → x.proof.isRunning = true → (t.proved l d = true → runs d) ∧ (t.proved l d = false → waits)) ∧
        (x.state = .failover → x.reason = some .fault → x.proof.isRunning = true →
          (t.proved l y = true → runs y ∧ (z.pump d).faulted = (x.pump d).faulted) ∧ (t.proved l y = false → waits)) ∧
        (x.state = .failover → x.reason = some .planned → x.proof.isRunning = true →
          (both → runs y ∧ (z.pump d).run = false) ∧ (¬ both → waits)) ∧
        (x.state = .flowloss → z.state = .flowloss ∧ z.duty = d ∧
          z.proof = if ¬ either then .stopped else if x.proof.isRunning then x.proof else .running r.prove) ∧
        (x.state = .running → flows → z.state = .running ∧
          z.lowflow = if ¬ low then .stopped else if x.lowflow.isRunning then x.lowflow else .running r.flowlossTime) ∧
        (x.state = .running → status → z = x))) ∧
  ∀ (s : State) (l : LoopId) (c : Instr) (q : PumpId) (n : NodeId), Calm s → BindingLaw s.cfg →
    (s.cfg.loops[l]).pumpNode q = some n → pumpOnly s.cfg n → s.readBy c n 1 3 →
    let r := s.cfg.loops[l]
    let x := s.loops[l]
    let d := x.duty
    let y := x.duty.other
    ∃ t, exec c s = .next t ∧ s.linkAfterReading t c ∧ t.plans = s.plans ∧
      (let z := t.loops[l]
       let lost := s.flowLost t l (if t.proved l .a = true ∨ t.proved l .b = true then .running r.prove else .stopped) ∧
         ∀ p m, r.pumpNode p = some m → ⟨m, 1, 0⟩ ∈ t.bus.urgent
       (x.state ≠ .idle → (x.pump q).faulted = false → (x.state = .failover → x.reason = some .fault → q = y) →
         (z.pump q).faulted = true ∧ Source.pump ∈ t.notice.pending) ∧
       (x.state = .starting ∨ x.state = .running → q = d → (z.pump d).faulted = true ∧
         ((x.pump y).faulted = false → (⟨n, 0, 0⟩ ∈ t.bus.urgent ++ t.bus.routine) ∧
           (∀ m, r.pumpNode y = some m → ⟨m, 1, 0⟩ ∈ t.bus.urgent) ∧ (t.proved l y = false → s.failedOver t l) ∧
           (t.proved l y = true → s.failedOverAtOnce t l)) ∧
         ((x.pump y).faulted = true → lost)) ∧
       (x.state = .failover → q = y → (z.pump y).faulted = true ∧ (x.reason = some .fault → lost) ∧
         (x.reason = some .planned → s.swapFailed t l ∧ ⟨n, 0, 0⟩ ∈ t.bus.urgent ++ t.bus.routine)) ∧
       (x.state = .running → q = y → z.state = .running ∧ z.duty = d ∧ (z.pump d) = (x.pump d)) ∧
       (x.state = .flowloss → z.state = .flowloss ∧ z.duty = d ∧ z.pumpA.run = x.pumpA.run ∧ z.pumpB.run = x.pumpB.run) ∧
       (x.state = .failover → x.reason = some .fault → q = d → (z.pump d).faulted = (x.pump d).faulted) ∧
       (x.state = .failover → x.reason = some .planned → q = d → x.proof.isRunning = true →
         (z.pump d).faulted = true ∧ (z.pump d).run = false ∧ (z.pump y).run = true ∧ (z.pump y).faulted = (x.pump y).faulted ∧
         (⟨n, 0, 0⟩ ∈ t.bus.urgent ++ t.bus.routine) ∧ (∀ m, r.pumpNode y = some m → ⟨m, 1, 0⟩ ∈ t.bus.urgent) ∧
         (t.proved l y = false → z.state = .failover ∧ z.reason = some .fault ∧ z.duty = d ∧ z.proof = x.proof) ∧
         (t.proved l y = true → z.state = .running ∧ z.reason = none ∧ z.duty = y ∧ z.proof = .stopped ∧
           (LoopCoilLaw s l → s.coilsFollow t l false true))))

/-- At every loop tick the sample count rises by one; where it reaches sample_every, which is not 0, a SAMPLE is offered before anything
else the tick traces, and the count returns to 0; with sample_every 0 it is held at 0 (R62). The sample carries the supply, return and flow
where known, the effective target, the fan demand, the bypass, the serving count and the plan state as the tick found them (R75). A tick
that has nothing else to trace, in FLOWLOSS or of a loop that is BLIND already, writes that entry alone, and none where no sample is due.
The tick timer starts again with the tick of the record (R62). -/
def Obligations.SamplesAreOffered : Prop :=
  ∀ (s : State) (l : LoopId), s.bus.lost = [] → (s.loops[l]).tick.isRunning = true →
    let r := s.cfg.loops[l]
    let x := s.loops[l]
    let due := r.sampleEvery ≠ 0 ∧ r.sampleEvery ≤ x.sampleCount + 1
    let body : TraceBody := .sample
      { sup := s.freshAt r.supplyPt, ret := s.freshAt r.returnPt, flow := s.flow l, tgt := (s.effective l).target,
        fan := x.fanStep * r.fanStep, byp := x.bypass, srv := s.servingCount l, plan := (s.plans[l]).state }
    let e : TraceEntry := { t := s.uptime, subj := .loop l, body := body }
    let quiet := (x.state = .running ∧ x.blind = true ∧ s.supply l = none) ∨ x.state = .flowloss
    ∃ t, exec (.loopTick l) s = .next t ∧ t.link = s.link ∧ t.plans = s.plans ∧ (t.loops[l]).tick = .running r.tick ∧
      (t.loops[l]).sampleCount = (if r.sampleEvery = 0 ∨ due then 0 else x.sampleCount + 1) ∧
      (due → ∀ h, s.trace.writer = .writing h → (s.trace.half h).entries ++ [e] <+: (t.trace.half h).entries) ∧
      (due → ∀ k, s.trace.writer = .locked k → min 65535 (s.trace.missed + 1) ≤ t.trace.missed) ∧
      (quiet → t.trace = if due then (s.offer (.loop l) body).trace else s.trace)

/-- A tick of a RUNNING loop whose supply is not FRESH: the loop is BLIND, its blind count is one more, up to 65535, the tick timer
restarts, and nothing is commanded and no output of the regulator moves (R62, R63).
A tick with a FRESH supply: below the floor it sets COLD with fan step 0, and COLD is released at 0.5 above the floor; a fan step above the
ceiling steps is lowered to them; then coils are staged, or else the band acts. Too warm: SAT_WARM in COLD, else the bypass closes by its
step, else the fan step rises by one. Too cold: the fan step falls by one, else, where no coil is staged out, the bypass opens by its step
up to 100, else SAT_COLD. Within the band both saturation flags clear (R63 to R68).
Staging. Below min_coils, or too warm with the bypass closed or no coil serving, the fans at their limit, room below max_coils and the
holdoff elapsed, and not in COLD, the first eligible coil of the roster begins its admission; with none, SAT_WARM. Above max_coils, or too
cold with the fans at 0, more coils than min_coils and the holdoff elapsed, the last SERVING coil of the roster without a HOLD override
begins its retirement. Neither happens while a coil of the loop is ADMITTING or RETIRING, and, where the coils of the loop keep their laws
(R99), no other coil begins either (R65 to R68, R88, R95). -/
def Obligations.TicksRegulateAndStage : Prop :=
  (∀ (s : State) (l : LoopId), s.bus.lost = [] → (s.loops[l]).tick.isRunning = true → (s.loops[l]).state = .running →
     s.supply l = none → ∃ t, exec (.loopTick l) s = .next t ∧ t.bus = s.bus ∧ t.nodes = s.nodes ∧ t.link = s.link ∧ t.plans = s.plans ∧
       t.cfg = s.cfg ∧
       (let x := s.loops[l]
        let z := t.loops[l]
        z.blind = true ∧ z.blindCount = min 65535 (x.blindCount + 1) ∧ z.tick = .running (s.cfg.loops[l]).tick ∧ z.state = .running ∧
        z.fanStep = x.fanStep ∧ z.bypass = x.bypass ∧ z.cold = x.cold ∧ z.pumpA = x.pumpA ∧ z.pumpB = x.pumpB ∧ z.duty = x.duty)) ∧
  (∀ (s : State) (l : LoopId) (v : Temp), Calm s → (s.loops[l]).tick.isRunning = true → (s.loops[l]).state = .running →
     s.supply l = some v →
     let r := s.cfg.loops[l]
     let x := s.loops[l]
     let e := s.effective l
     let steps := e.ceiling / r.fanStep
     let serving := s.servingCount l
     let idle := s.staging l = false
     let inCold := v < r.floor ∨ (x.cold = true ∧ v < r.floor + 5)
     let base := if v < r.floor ∧ x.cold = false then 0 else min x.fanStep steps
     let few := serving + s.admittingCount l < e.minCoils ∧ idle ∧ ¬ inCold
     let many := ¬ few ∧ e.maxCoils < serving ∧ idle
     let tooWarm := ¬ few ∧ ¬ many ∧ e.band < v - e.target
     let tooCold := ¬ few ∧ ¬ many ∧ ¬ e.band < v - e.target ∧ v - e.target < -e.band
     let atLimit := ¬ inCold ∧ (x.bypass = 0 ∨ serving = 0) ∧ (steps ≤ base ∨ s.summaries[l] = .tripped)
     let stageIn := tooWarm ∧ atLimit ∧ serving + s.admittingCount l < e.maxCoils ∧ idle ∧ x.holdoff = .stopped
     let stageOut := tooCold ∧ base = 0 ∧ e.minCoils < serving ∧ idle ∧ x.holdoff = .stopped
     let first := (s.cfg.rosters[l]).find? fun c => s.eligible c
     let last := (s.cfg.rosters[l]).reverse.find? fun c => (s.coils[c]).service = .serving && !s.held c
     ∃ t, exec (.loopTick l) s = .next t ∧ t.link = s.link ∧ t.plans = s.plans ∧ t.overrides = s.overrides ∧
       (let z := t.loops[l]
        z.state = .running ∧ z.blind = false ∧ z.tick = .running r.tick ∧ (z.cold = true ↔ inCold) ∧
        (few ∨ many → z.fanStep = base) ∧
        (¬ few → ¬ many → v - e.target ≤ e.band → -e.band ≤ v - e.target →
          z.satWarm = false ∧ z.satCold = false ∧ z.fanStep = base ∧ z.bypass = x.bypass) ∧
        (tooWarm → inCold → z.satWarm = true ∧ z.fanStep = base ∧ z.bypass = x.bypass) ∧
        (tooWarm → ¬ inCold → 0 < x.bypass → 1 ≤ serving →
          z.bypass = x.bypass - r.bypassStep ∧ z.fanStep = base ∧ z.satCold = false) ∧
        (tooWarm → ¬ inCold → x.bypass = 0 ∨ serving = 0 → base < steps → s.summaries[l] ≠ .tripped →
          z.fanStep = base + 1 ∧ z.bypass = x.bypass ∧ z.satCold = false) ∧
        (tooWarm → atLimit → z.fanStep = base ∧ z.bypass = x.bypass ∧ (¬ stageIn → z.satWarm = true)) ∧
        (tooCold → 0 < base → z.fanStep = base - 1 ∧ z.bypass = x.bypass ∧ z.satWarm = false) ∧
        (tooCold → base = 0 → ¬ stageOut ∨ last = none →
          z.fanStep = 0 ∧ (x.bypass < 100 → z.bypass = min 100 (x.bypass + r.bypassStep) ∧ z.satWarm = false) ∧
          (100 ≤ x.bypass → z.bypass = x.bypass ∧ z.satCold = true))) ∧
       (∀ c, few ∨ stageIn → first = some c →
         (∃ k, (t.coils[c]).service = .admitting k false false ∧ (t.coils[c]).desiredValve = some (100 * k / r.admitSteps) ∧
           ((s.coils[c]).service = .isolated → k = 1)) ∧
         (t.coils[c]).admission = .running r.admitTimeout ∧ (t.coils[c]).admitRef = some v) ∧
       (stageIn → first ≠ none → (t.loops[l]).satWarm = false ∧ (t.loops[l]).satCold = false) ∧
       (few ∨ stageIn → first = none → (t.loops[l]).satWarm = true) ∧
       (∀ c, many ∨ stageOut → last = some c →
         (t.coils[c]).service = .retiring .rundown false ∧ (t.coils[c]).rundown = .running r.rundown ∧ (t.coils[c]).desiredFan = 0) ∧
       (stageOut → last ≠ none → (t.loops[l]).satWarm = false ∧ (t.loops[l]).satCold = false) ∧
       (LoopCoilLaw s l → ∀ c : CoilId,
         (¬ ((few ∨ stageIn) ∧ first = some c) → (t.coils[c]).service.isAdmitting = (s.coils[c]).service.isAdmitting) ∧
         (¬ ((many ∨ stageOut) ∧ last = some c) → (t.coils[c]).service.isRetiring = (s.coils[c]).service.isRetiring)))

/-! ## Rosters and coils (chapter 4) -/

/-- ROSTER_ORDER takes an order that lists exactly the roster's coils, each once (else BADARG key=order), with SVC active (else TIER) and no
coil of the loop ADMITTING or RETIRING (else STATE); ROSTER_ROTATE moves the lead to the end under the last condition alone (R79).
At its expiry the rotation timer restarts with rotate_interval; the roster rotates, traced with the new lead, or, while a coil of the loop
is ADMITTING or RETIRING, the rotation is deferred (R80). The keys of the ROTATE entry are the model's choice (assumption 15). An event
whose timer does not run has no effect (assumption 2).
Expiries that only end their timer: the holdoff elapses, the admit-skip timer and the shed cooldown stop; an event whose timer does not run
has no effect, the model's choice (R69, R92, R102, assumption 2). -/
def Obligations.RostersRotateAndPlainTimersEnd : Prop :=
  (∀ (s : State) (l : LoopId), Ready s →
     let roster := s.cfg.rosters[l]
     let withRoster := fun r : List CoilId => ({ s with cfg := { s.cfg with rosters := s.cfg.rosters.set l r } } : State)
     (∀ (args : List Arg) (order : List CoilId), roster.Nodup →
       badArg [loopKey, .need "order" [.list, .none] (known (readList readCoil))] args = none → loopArg args = some l →
       (argOf args "order").bind (readList readCoil) = some order →
       (¬ order.Perm roster → exec (.rosterOrder args) s = .next (s.answered "ROSTER_ORDER" .badArg [("key", .word "order")])) ∧
       (order.Perm roster → s.inputs.svc.debounced = true →
         exec (.rosterOrder args) s = .next (s.answered "ROSTER_ORDER" .refused [("why", .word "TIER")])) ∧
       (order.Perm roster → s.inputs.svc.debounced = false → s.staging l = true →
         exec (.rosterOrder args) s = .next (s.answered "ROSTER_ORDER" .refused [("why", .word "STATE")])) ∧
       (order.Perm roster → s.inputs.svc.debounced = false → s.staging l = false →
         exec (.rosterOrder args) s = .next ((withRoster order).answered "ROSTER_ORDER" .ok []))) ∧
     (s.staging l = true → exec (.rosterRotate [kv "loop" (loopName l)]) s =
       .next (s.answered "ROSTER_ROTATE" .refused [("why", .word "STATE")])) ∧
     (s.staging l = false → exec (.rosterRotate [kv "loop" (loopName l)]) s =
       .next ((withRoster (roster.drop 1 ++ roster.take 1)).answered "ROSTER_ROTATE" .ok [])) ∧
     (s.staging l = true ↔ ∃ c : CoilId, (s.cfg.coils[c]).loop = some l ∧ (match (s.coils[c]).service with
       | .admitting _ _ _ => True
       | .retiring _ _ => True
       | _ => False))) ∧
  (∀ (s : State) (l : LoopId), s.bus.lost = [] →
     let roster := s.cfg.rosters[l]
     let timer := if (s.cfg.loops[l]).rotateInterval = 0 then Timer.stopped else .running (s.cfg.loops[l]).rotateInterval
     ((s.units[l]).rotation.isRunning = false → exec (.rotateTimerExpiry l) s = .next s) ∧
     ((s.units[l]).rotation.isRunning = true → s.staging l = true → exec (.rotateTimerExpiry l) s =
       .next { s with units := s.units.set l { s.units[l] with rotation := timer, deferred := true } }) ∧
     ((s.units[l]).rotation.isRunning = true → s.staging l = false → exec (.rotateTimerExpiry l) s =
       .next (({ s with
         units := s.units.set l { s.units[l] with rotation := timer }
         cfg := { s.cfg with rosters := s.cfg.rosters.set l (roster.drop 1 ++ roster.take 1) } } : State).event (.loop l) .loop
         [("detail", .word "ROTATE"), ("lead", optWord coilName (roster.drop 1 ++ roster.take 1).head?)]))) ∧
  (∀ (s : State) (l : LoopId) (c : CoilId), s.bus.lost = [] →
     ((s.loops[l]).holdoff.isRunning = true → exec (.holdoffExpiry l) s =
       .next { s with loops := s.loops.set l { s.loops[l] with holdoff := .stopped } }) ∧
     ((s.loops[l]).holdoff.isRunning = false → exec (.holdoffExpiry l) s = .next s) ∧
     ((s.coils[c]).skip.isRunning = true → exec (.admitSkipExpiry c) s =
       .next { s with coils := s.coils.set c { s.coils[c] with skip := .stopped } }) ∧
     ((s.coils[c]).skip.isRunning = false → exec (.admitSkipExpiry c) s = .next s) ∧
     ((s.coils[c]).cooldown.isRunning = true → exec (.shedCooldownExpiry c) s =
       .next { s with coils := s.coils.set c { s.coils[c] with cooldown := .stopped } }) ∧
     ((s.coils[c]).cooldown.isRunning = false → exec (.shedCooldownExpiry c) s = .next s))

/-- COIL_ADMIT admits an eligible coil, whatever its HOLD override, where no coil of its loop is ADMITTING, and answers with the loop and the
first position: step 1 from ISOLATED, the first step above kw_position from KEEPWARM; otherwise it is REFUSED why=STATE (R88, R89, R94).
COIL_RETIRE retires a coil in SERVING or SHEDDING where no coil of its loop is ADMITTING or RETIRING, the bypass opening fully first for
the last serving coil, and answers with the loop and the serving count left; otherwise it is REFUSED why=STATE (R70, R95, R97). The reply
keys loop=, position= and serving= are the model's choice (assumption 17). -/
def Obligations.CoilAdmitAndCoilRetire : Prop :=
  (∀ (s : State) (c : CoilId), Ready s →
     let outcome := exec (.coilAdmit [kv "coil" (coilName c)]) s
     let r := s.cfg.coils[c]
     let x := s.coils[c]
     let able := (x.service = .isolated ∨ ∃ k, x.service = .keepwarm k) ∧
       (∃ n, r.fanNode = some n ∧ (s.nodes[n]).state = .online) ∧ (∃ n, r.valveNode = some n ∧ (s.nodes[n]).state = .online) ∧
       x.skip.isRunning = false
     (r.loop = none → outcome = .next (s.answered "COIL_ADMIT" .refused [("why", .word "STATE")])) ∧
     ∀ l, r.loop = some l →
       (¬ able ∨ (s.loops[l]).state ≠ .running ∨ 0 < s.admittingCount l →
         outcome = .next (s.answered "COIL_ADMIT" .refused [("why", .word "STATE")])) ∧
       (able → (s.loops[l]).state = .running → s.admittingCount l = 0 → AllReachable s →
         let n := (s.cfg.loops[l]).admitSteps
         ∃ t k, outcome = .next t ∧ s.replied t "COIL_ADMIT" .ok [("loop", .word (loopName l)), ("position", .int (100 * k / n : Nat))] ∧
           t.plans = s.plans ∧ t.cfg = s.cfg ∧ t.overrides = s.overrides ∧ (t.coils[c]).service = .admitting k false false ∧
           (t.coils[c]).desiredValve = some (100 * k / n) ∧ (t.coils[c]).settled = false ∧
           (t.coils[c]).stroke = .running (s.cfg.loops[l]).strokeTimeout ∧
           (t.coils[c]).admission = .running (s.cfg.loops[l]).admitTimeout ∧ (t.coils[c]).admitTotal = n ∧
           (t.coils[c]).admitBegan = s.uptime ∧ (∀ v, s.supply l = some v → (t.coils[c]).admitRef = some v) ∧
           (x.service = .isolated → k = 1) ∧
           (∀ kind, x.service = .keepwarm kind → (s.cfg.loops[l]).kwPosition < 100 → 0 < n → 1 ≤ k ∧ k ≤ n ∧
             (s.cfg.loops[l]).kwPosition < 100 * k / n ∧ ∀ j, 1 ≤ j → j < k → 100 * j / n ≤ (s.cfg.loops[l]).kwPosition))) ∧
  (∀ (s : State) (c : CoilId), Ready s →
     let outcome := exec (.coilRetire [kv "coil" (coilName c)]) s
     let x := s.coils[c]
     let able := x.service = .serving ∨ x.service = .shedding
     ((s.cfg.coils[c]).loop = none → outcome = .next (s.answered "COIL_RETIRE" .refused [("why", .word "STATE")])) ∧
     ∀ l, (s.cfg.coils[c]).loop = some l →
       (¬ able ∨ s.staging l = true → outcome = .next (s.answered "COIL_RETIRE" .refused [("why", .word "STATE")])) ∧
       (able → s.staging l = false → AllReachable s →
         ∃ t, outcome = .next t ∧
           s.replied t "COIL_RETIRE" .ok [("loop", .word (loopName l)), ("serving", .int (s.servingCount l - 1 : Nat))] ∧
           t.plans = s.plans ∧ t.cfg = s.cfg ∧ t.overrides = s.overrides ∧ (t.coils[c]).service = .retiring .rundown false ∧
           (t.coils[c]).rundown = .running (s.cfg.loops[l]).rundown ∧ (t.coils[c]).desiredFan = 0 ∧ (t.coils[c]).shed = .stopped ∧
           (t.coils[c]).desiredValve = x.desiredValve ∧ t.servingCount l = s.servingCount l - 1 ∧
           (s.servingCount l = 1 → (t.loops[l]).bypass = 100)))

/-- COIL_CLEAR takes each selected FAULTED coil whose two nodes are bound and ONLINE into RETIRING, CLOSING, with the out-flag clear, its
valve commanded to 0 and its stroke check started; where any selected coil fails, the request is refused with the mask of those that
fail, and nothing changes (R106, R127, R128). That the reply carries no keys is the model's form (assumption 17). -/
def Obligations.CoilClearReleasesFaultedCoils : Prop :=
  ∀ (s : State) (args : List Arg) (m : CoilSet), Ready s → badArgGroup [] args = none →
    (argOf args "coils").bind readMask = some m →
    let able := fun c : CoilId => (s.cfg.coils[c]).loop ≠ none ∧ (∃ k, (s.coils[c]).service = .faulted k) ∧
      (∃ n, (s.cfg.coils[c]).fanNode = some n ∧ (s.nodes[n]).state = .online) ∧
      ∃ n, (s.cfg.coils[c]).valveNode = some n ∧ (s.nodes[n]).state = .online
    (∀ f : CoilSet, f ≠ 0 → (∀ c : CoilId, f.getLsbD c.val = true ↔ m.getLsbD c.val = true ∧ ¬ able c) →
      exec (.coilClear args) s = .next (s.answered "COIL_CLEAR" .refused [("why", .word "STATE"), ("refused", .mask f)])) ∧
    ((∀ c : CoilId, m.getLsbD c.val = true → able c) → AllReachable s →
      ∃ t, exec (.coilClear args) s = .next t ∧ s.replied t "COIL_CLEAR" .ok [] ∧ t.loops = s.loops ∧ t.plans = s.plans ∧
        t.cfg = s.cfg ∧ t.units = s.units ∧
        (∀ c : CoilId, m.getLsbD c.val = true → ∀ l, (s.cfg.coils[c]).loop = some l →
          t.coils[c] = { s.coils[c] with service := .retiring .closing false, desiredValve := some 0, settled := false,
                                         stroke := .running (s.cfg.loops[l]).strokeTimeout }) ∧
        ∀ c : CoilId, m.getLsbD c.val = false → t.coils[c] = s.coils[c])

/-- A stroke expiry faults the coil with cause STROKE: its fan 0, its timers stopped, its places in the queues and the permit left, COIL
raised, for a coil in a state that takes a fault and a loop that is not IDLE (R85, R105).
The step dwell's expiry commands the next step; the admission timeout aborts the admission into ISOLATED with the valve commanded to 0 and
the admit-skip and holdoff timers started; the rundown's expiry commands the valve to 0 in CLOSING, or waits while the loop is in FLOWLOSS
(R84, R90, R92, R96). Each stroke check starts anew with its command. An admission that times out in frost state WATCH or TRIP makes its
emergency request as the coil enters ISOLATED, where the request is acted on (R101). That STROKE_TIMEOUT has no effect where no stroke timer
runs is the model's choice (assumption 2); that the abort clears the admit reference is its reading (assumption 28). -/
def Obligations.StrokeAndStagingTimersMoveTheCoil : Prop :=
  (∀ (s : State) (c : CoilId) (l : LoopId), Calm s → (s.cfg.coils[c]).loop = some l →
     ((s.coils[c]).stroke.isRunning = false → exec (.strokeTimeout c) s = .next s) ∧
     ((s.coils[c]).stroke.isRunning = true → (s.loops[l]).state ≠ .idle →
       (s.coils[c]).service.takesFault →
       ∃ t, exec (.strokeTimeout c) s = .next t ∧ t.link = s.link ∧ t.plans = s.plans ∧ t.overrides = s.overrides ∧
         s.coilFaulted t c l .stroke)) ∧
  (∀ (s : State) (c : CoilId) (l : LoopId) (n : NodeId), Calm s → (s.cfg.coils[c]).loop = some l →
     (s.cfg.coils[c]).valveNode = some n →
     let x := s.coils[c]
     let commanded := fun (t : State) (pos : Nat) => (t.coils[c]).desiredValve = some pos ∧ (t.coils[c]).settled = false ∧
       (t.coils[c]).stroke = .running (s.cfg.loops[l]).strokeTimeout ∧ (t.nodes[n]).shadow.desired = some (pos : Int)
     (∀ k held, x.dwell.isRunning = true → x.service = .admitting k true held →
       ∃ t, exec (.stepDwellExpiry c) s = .next t ∧ t.link = s.link ∧ t.loops = s.loops ∧ t.units = s.units ∧ t.cfg = s.cfg ∧
         (t.coils[c]).service = .admitting (k + 1) false held ∧ (t.coils[c]).dwell = .stopped ∧
         commanded t (100 * (k + 1) / x.admitTotal)) ∧
     (∀ k d held, x.admission.isRunning = true → x.service = .admitting k d held → (s.loops[l]).state ≠ .idle →
       ∃ t, exec (.admitTimeout c) s = .next t ∧ t.link = s.link ∧ t.plans = s.plans ∧
         (t.coils[c]).admission = .stopped ∧ (t.coils[c]).dwell = .stopped ∧ (t.coils[c]).admitRef = none ∧
         (t.coils[c]).skip = .running (s.cfg.loops[l]).holdoff ∧ (t.loops[l]).holdoff = .running (s.cfg.loops[l]).holdoff ∧
         Source.coil ∈ t.notice.pending ∧
         (let count := (s.units[l]).kwCount
          (¬ s.asks c l → (t.coils[c]).service = .isolated ∧ commanded t 0) ∧
          (s.asks c l → s.requestServed t c l count ∧
            (x.frostGiven = .trip → commanded t (s.cfg.loops[l]).kwPosition ∧ (t.units[l]).kwCount = count) ∧
            (x.frostGiven = .watch → (s.cfg.loops[l]).kwConcurrency ≤ count → commanded t 0)))) ∧
     (∀ k o, x.rundown = .running k → x.service = .retiring .rundown o →
       ((s.loops[l]).state = .flowloss →
         exec (.rundownExpiry c) s = .next { s with coils := s.coils.set c { x with rundown := .expiredWaiting } }) ∧
       ((s.loops[l]).state ≠ .flowloss →
         ∃ t, exec (.rundownExpiry c) s = .next t ∧ t.link = s.link ∧ t.loops = s.loops ∧ t.units = s.units ∧ t.cfg = s.cfg ∧
           (t.coils[c]).service = .retiring .closing o ∧ (t.coils[c]).rundown = .stopped ∧ commanded t 0)))

/-- The keep-warm timer's expiry sends the coil to the tail of the keep-warm queue where its loop is RUNNING or FAILOVER and the outdoor
temperature is unknown or below kw_threshold, and a cycle starts at once where there is room; otherwise the timer restarts. The cycle's
dwell ends it: valve 0, ISOLATED, the count one less; an EMERGENCY cycle runs on while the coil is in TRIP (R98 to R101).
A cycle that ends in frost state WATCH or TRIP makes the coil's emergency request as the coil enters ISOLATED, where the request is acted on
(R101); that a SCHEDULED one makes it before the place it frees is given away is the model's reading (assumption 27).
The shed timer's expiry returns a SHEDDING coil to SERVING, its permit freed and its cooldown started, its fan speed computed anew (R86,
R104). -/
def Obligations.KeepWarmAndShedTimers : Prop :=
  (∀ (s : State) (c : CoilId) (l : LoopId) (n : NodeId), Calm s → (s.cfg.coils[c]).loop = some l →
     (s.cfg.coils[c]).valveNode = some n →
     let r := s.cfg.loops[l]
     let x := s.coils[c]
     let u := s.units[l]
     let called := ((s.loops[l]).state = .running ∨ (s.loops[l]).state = .failover) ∧
       ∀ v, s.inputs.outdoor.temp = some v → v < r.kwThreshold
     (x.kwTimer.isRunning = true →
       (¬ called → exec (.keepwarmTimerExpiry c) s =
         .next { s with coils := s.coils.set c { x with kwTimer := .running r.kwInterval } }) ∧
       (called → r.kwConcurrency ≤ u.kwCount → c ∉ u.kwQueue → exec (.keepwarmTimerExpiry c) s =
         .next { s with coils := s.coils.set c { x with kwTimer := .stopped }
                        units := s.units.set l { u with kwQueue := u.kwQueue ++ [c] } }) ∧
       (called → u.kwCount < r.kwConcurrency → u.kwQueue = [] →
         ∃ t, exec (.keepwarmTimerExpiry c) s = .next t ∧ t.link = s.link ∧ t.loops = s.loops ∧
           (t.coils[c]).service = .keepwarm .scheduled ∧ (t.coils[c]).kwTimer = .stopped ∧
           (t.coils[c]).kwDwell = .running r.kwDwell ∧ (t.coils[c]).desiredValve = some r.kwPosition ∧
           (t.units[l]).kwCount = u.kwCount + 1 ∧ (t.units[l]).kwQueue = [])) ∧
     (x.kwDwell.isRunning = true → c ∉ u.kwQueue → ¬ s.asks c l →
       x.service = .keepwarm .scheduled ∨ (x.service = .keepwarm .emergency ∧ x.frostGiven ≠ .trip) →
       ∃ t, exec (.kwDwellExpiry c) s = .next t ∧ t.link = s.link ∧ t.loops = s.loops ∧ (t.coils[c]).service = .isolated ∧
         (t.coils[c]).desiredValve = some 0 ∧ (t.coils[c]).kwDwell = .stopped ∧
         ((s.cfg.coils[c]).options.keepwarmOk = true → (s.loops[l]).state ≠ .idle →
           (t.coils[c]).kwTimer = .running r.kwInterval) ∧
         (x.service = .keepwarm .scheduled → u.kwQueue = [] → (t.units[l]).kwCount = u.kwCount - 1)) ∧
     (x.kwDwell.isRunning = true → s.asks c l →
       x.service = .keepwarm .scheduled ∨ (x.service = .keepwarm .emergency ∧ x.frostGiven ≠ .trip) →
       ∃ t, exec (.kwDwellExpiry c) s = .next t ∧ t.link = s.link ∧ t.loops = s.loops ∧
         (let count := if x.service = .keepwarm .scheduled then u.kwCount - 1 else u.kwCount
          s.requestServed t c l count ∧ (x.frostGiven = .trip → u.kwQueue = [] → (t.units[l]).kwCount = count) ∧
          (x.frostGiven = .watch → r.kwConcurrency ≤ count → (t.coils[c]).desiredValve = some 0 ∧ (t.coils[c]).kwDwell = .stopped))) ∧
     (x.kwDwell.isRunning = true → x.service = .keepwarm .emergency → x.frostGiven = .trip → exec (.kwDwellExpiry c) s =
       .next { s with coils := s.coils.set c { x with kwDwell := .running r.kwDwell } })) ∧
  (∀ (s : State) (c : CoilId) (l : LoopId), Calm s → (s.cfg.coils[c]).loop = some l → (s.coils[c]).shed.isRunning = true →
     (s.coils[c]).service = .shedding →
     ∃ t, exec (.shedTimerExpiry c) s = .next t ∧ t.link = s.link ∧ t.loops = s.loops ∧ t.plans = s.plans ∧
       (t.coils[c]).service = .serving ∧ (t.coils[c]).shed = .stopped ∧
       (t.coils[c]).cooldown = .running (s.cfg.loops[l]).shedCooldown ∧ (t.units[l]).permit ≠ some c ∧
       (t.coils[c]).desiredFan = t.fanDemand c)

/-- A coil is eligible to shed while it is SERVING with SHED_OK and REVERSE_OK set, its frost state CLEAR, no FAN override, its cooldown
elapsed, and its loop RUNNING (R102).
An icing reading at or above icing_limit puts an eligible coil that does not stand there at the tail of its loop's shed queue, and the queue
is served: with the permit free, the first coil of it that is still eligible takes the permit and is SHEDDING, its shed timer started and
its fan speed computed anew and sent ROUTINE, and those before it are dropped; with the permit held, the coils wait. Any other reading
changes no coil (R86, R102, R103). The reading may be the poller's or that of a pass-through READ, whose end places the deferred reply of
BUS_PASS as well (R158). That the SHED_START entry has the key detail is the model's choice (assumption 15).
The snow warning, as it becomes active, does so for every eligible coil of every loop, in roster order (R102, R103, R167).
The permit a coil gives back at the end of its shed timer is offered to the queue in the same way (R103, R104). -/
def Obligations.CoilsEnterShedding : Prop :=
  (∀ (s : State) (c : CoilId), s.shedEligible c = true ↔
     (s.coils[c]).service = .serving ∧ (s.cfg.coils[c]).options.shedOk = true ∧ (s.cfg.coils[c]).options.reverseOk = true ∧
     (s.coils[c]).frostGiven = .clear ∧ (∀ v e, s.overrides[c] ≠ some ⟨.fan v, e⟩) ∧ (s.coils[c]).cooldown.isRunning = false ∧
     ∃ l, (s.cfg.coils[c]).loop = some l ∧ (s.loops[l]).state = .running) ∧
  (∀ (s : State) (c : CoilId) (l : LoopId) (n : NodeId) (p : Nat) (i : Instr) (v : Int), Calm s → (s.cfg.coils[c]).loop = some l →
     (s.cfg.coils[c]).icingPt = some ⟨n, p⟩ → soleUse s.cfg n p → s.readBy i n p v →
     (∀ d ∈ (s.units[l]).shedQueue, (s.cfg.coils[d]).loop = some l) →
     let u := s.units[l]
     let joins := (s.cfg.loops[l]).icingLimit ≤ v ∧ s.shedEligible c = true ∧ c ∉ u.shedQueue
     ∃ t, exec i s = .next t ∧ s.linkAfterReading t i ∧ t.plans = s.plans ∧ t.cfg = s.cfg ∧ t.loops = s.loops ∧ t.frost = s.frost ∧
       (¬ joins → t.coils = s.coils ∧ t.units = s.units ∧ t.trace = s.trace) ∧
       (joins → s.queueServed t l (u.shedQueue ++ [c])) ∧
       (joins → u.permit = none → u.shedQueue = [] →
         t.trace = (s.event (.coil c) .coil [("detail", .word "SHED_START")]).trace ∧
         ∀ m, (s.cfg.coils[c]).fanNode = some m → (s.coils[c]).desiredFan ≠ t.fanDemand c → (∀ e ∈ s.bus.urgent, e.node ≠ m) →
           ⟨m, t.fanDemand c, 0⟩ ∈ t.bus.routine)) ∧
  (∀ (s : State) (i : InputId), Calm s → RosterLaw s.cfg →
     (∀ l : LoopId, ∀ d ∈ (s.units[l]).shedQueue, (s.cfg.coils[d]).loop = some l) →
     (s.cfg.inputs[i]).role = .snowWarn → ((s.inputs.contacts)[i]).timer.isSome = true →
     ((s.inputs.contacts)[i]).pin = (s.cfg.inputs[i]).activeHigh → s.inputs.snowWarn = false →
     (s.inputs.plantStop = true ↔ ∃ j : InputId, (s.cfg.inputs[j]).role = .plantStop ∧
       ((s.inputs.contacts)[j]).debounced = (s.cfg.inputs[j]).activeHigh) →
     ∃ t, exec (.debounceExpiry (.d i)) s = .next t ∧ t.inputs.snowWarn = true ∧ t.link = s.link ∧ t.cfg = s.cfg ∧ t.loops = s.loops ∧
       ∀ l : LoopId,
         let queue := (s.units[l]).shedQueue
         let ones := (s.cfg.rosters[l]).filter fun c => s.shedEligible c && !queue.contains c
         (ones = [] → t.units[l] = s.units[l] ∧ ∀ c : CoilId, (s.cfg.coils[c]).loop = some l → t.coils[c] = s.coils[c]) ∧
         (ones ≠ [] → s.queueServed t l (queue ++ ones))) ∧
  ∀ (s : State) (c : CoilId) (l : LoopId), Calm s → (s.cfg.coils[c]).loop = some l → (s.coils[c]).service = .shedding →
    (s.coils[c]).shed.isRunning = true → (s.units[l]).permit = some c →
    (∀ d ∈ (s.units[l]).shedQueue, (s.cfg.coils[d]).loop = some l) →
    ∃ t, exec (.shedTimerExpiry c) s = .next t ∧
      (let back := { s.coils[c] with service := .serving, shed := .stopped, cooldown := .running (s.cfg.loops[l]).shedCooldown,
                                     desiredFan := t.fanDemand c }
       let s1 := { s with coils := s.coils.set c back, units := s.units.set l { s.units[l] with permit := none } }
       s1.queueServed t l (s.units[l]).shedQueue)

/-- A good read of a coil's valve position settles a running stroke check where it lies within 5 of the desired position, and the operation
waiting on it moves on: an admission into the dwell of its step, paused while HELD or in FAILOVER, or, at its last step, into SERVING
with the holdoff started; a CLOSING retirement into OUT or ISOLATED with the holdoff started, where a coil that enters ISOLATED in frost
state WATCH or TRIP makes its emergency request, if that is acted on. A reading further off, or with no check running, changes nothing
(R69, R85, R90, R92, R96, R98, R101). At each tick of a RUNNING loop an admission is HELD, its dwell paused, while the supply is not
FRESH, below the floor, or more than slug below the reference, and goes on otherwise (R91).
A coil's frost state changes with a good read of its outlet, and the coil unit acts on it at once: the fan speed of a SERVING coil follows
the table; SHEDDING ends unless the new state is CLEAR; an ISOLATED coil that takes a WATCH request heads the keep-warm queue, and starts its
cycle where there is room; one that takes a TRIP request, and, where the coils keep their laws (R99), a SCHEDULED cycle in TRIP, runs an
EMERGENCY cycle; any other coil keeps its state. The summary of the loop is computed anew, and a change into or out of TRIP raises FROST
(R101, R104, R112, R116 to R121, R123).
A good read of FAULT at the status point of a coil's fan or valve node faults the coil with cause FAN or VALVE, for a coil in a state that
takes a fault and a loop that is not IDLE; in any other case, and for any other status, no coil changes (R105). -/
def Obligations.ReadingsMoveTheCoil : Prop :=
  (∀ (s : State) (c : CoilId) (l : LoopId) (n : NodeId) (bytes : List Byte) (f : Flight) (st : Option BusStatus) (v : Int), Calm s →
     s.bus.flight = some f → f.kind = .read → f.node = n → f.point = 1 → 7 ≤ (s.bus.rx ++ bytes).length →
     replyResult f ((s.bus.rx ++ bytes).take 7) = ⟨.good, st, some v⟩ → (s.cfg.nodes[n]).role = .valve → (s.nodes[n]).state = .online →
     (s.cfg.coils[c]).loop = some l → (s.cfg.coils[c]).valveNode = some n → Settings.timesBound s.cfg n = 1 →
     (∀ pt ∈ s.cfg.points, pt.node ≠ n) →
     let r := s.cfg.loops[l]
     let x := s.coils[c]
     ∃ t, exec (.replyFrame bytes) s = .next t ∧ t.plans = s.plans ∧ t.cfg.coils = s.cfg.coils ∧ t.frost = s.frost ∧
       (let y := t.coils[c]
        (∀ pos, x.desiredValve = some pos →
          ((x.stroke.isRunning = false ∨ 5 < (v - pos).natAbs) → y = x) ∧
          (x.stroke.isRunning = true → (v - pos).natAbs ≤ 5 →
            (∀ k held, x.service = .admitting k false held →
              (k < x.admitTotal → y = { x with service := .admitting k true held, settled := true, stroke := .stopped,
                                               dwell := if held = true ∨ (s.loops[l]).state = .failover then .paused r.stepDwell
                                                        else .running r.stepDwell }) ∧
              (x.admitTotal ≤ k → y.service = .serving ∧ y.settled = true ∧ y.stroke = .stopped ∧ y.admission = .stopped ∧
                y.dwell = .stopped ∧ y.admitRef = none ∧ y.desiredFan = t.fanDemand c ∧
                ((s.loops[l]).state ≠ .idle → (t.loops[l]).holdoff = .running r.holdoff))) ∧
            (∀ o, x.service = .retiring .closing o →
              (o = true → y.service = .out ∧ y.kwTimer = .stopped) ∧
              (o = false → s.asks c l → s.requestServed t c l (s.units[l]).kwCount ∧
                (x.frostGiven = .trip → (t.units[l]).kwCount = (s.units[l]).kwCount) ∧
                (x.frostGiven = .watch → r.kwConcurrency ≤ (s.units[l]).kwCount → y.desiredValve = some pos ∧ y.settled = true)) ∧
              (o = false → ¬ s.asks c l → y.service = .isolated ∧
                y.kwTimer = (if (s.cfg.coils[c]).options.keepwarmOk = true ∧ (s.loops[l]).state ≠ .idle then .running r.kwInterval
                  else .stopped)) ∧
              ((s.loops[l]).state ≠ .idle → (t.loops[l]).holdoff = .running r.holdoff)) ∧
            ((∀ k held, x.service ≠ .admitting k false held) → (∀ o, x.service ≠ .retiring .closing o) →
              y = { x with settled := true, stroke := .stopped }))))) ∧
  (∀ (s : State) (c : CoilId) (l : LoopId) (k : Nat) (d held : Bool), Calm s → (s.cfg.coils[c]).loop = some l →
     (s.coils[c]).service = .admitting k d held → (s.loops[l]).state = .running → (s.loops[l]).tick.isRunning = true →
     let x := s.coils[c]
     let halt := ∀ v, s.supply l = some v → v < (s.cfg.loops[l]).floor ∨ ∃ r0, x.admitRef = some r0 ∧ v < r0 - (s.cfg.loops[l]).slug
     ∃ t, exec (.loopTick l) s = .next t ∧ (t.coils[c]).admission = x.admission ∧
       (halt → (t.coils[c]).service = .admitting k d true ∧ (t.coils[c]).dwell = if held = true then x.dwell else x.dwell.pause) ∧
       (¬ halt → (t.coils[c]).service = .admitting k d false ∧ (t.coils[c]).dwell = if held = true then x.dwell.resume else x.dwell)) ∧
  (∀ (s : State) (c : CoilId) (l : LoopId) (n : NodeId) (i : Instr) (v : Int), Calm s → (s.cfg.coils[c]).loop = some l →
     ((s.cfg.coils[c]).fanNode = some n ∧ (s.cfg.nodes[n]).role = .fan) ∨ ((s.cfg.coils[c]).valveNode = some n ∧
       (s.cfg.nodes[n]).role = .valve) →
     Settings.timesBound s.cfg n = 1 → (∀ pt ∈ s.cfg.points, pt.node ≠ n) → s.readBy i n 2 v →
     let faults := v = 3 ∧ (s.coils[c]).service.takesFault ∧ (s.loops[l]).state ≠ .idle
     ∃ t, exec i s = .next t ∧ s.linkAfterReading t i ∧ t.plans = s.plans ∧ t.overrides = s.overrides ∧ t.frost = s.frost ∧
       (faults → s.coilFaulted t c l (if (s.cfg.coils[c]).fanNode = some n then .fan else .valve)) ∧
       (¬ faults → t.coils = s.coils ∧ t.units = s.units ∧ t.loops = s.loops ∧ t.notice = s.notice)) ∧
  (∀ (s : State) (c : CoilId) (l : LoopId) (n : NodeId) (p : Nat) (bytes : List Byte) (f : Flight) (st : Option BusStatus) (v : Int),
     Calm s → s.bus.flight = some f → f.kind = .read → f.node = n → f.point = p → 7 ≤ (s.bus.rx ++ bytes).length →
     replyResult f ((s.bus.rx ++ bytes).take 7) = ⟨.good, st, some v⟩ → (s.cfg.nodes[n]).role = .sensor →
     p < (s.cfg.nodes[n]).channels → p < 4 → (s.nodes[n]).state = .online → (s.cfg.coils[c]).loop = some l →
     (s.cfg.coils[c]).outletPt = some ⟨n, p⟩ → (s.cfg.points.filter fun pt => pt = ⟨n, p⟩).length = 1 →
     Settings.timesBound s.cfg n = 0 →
     let r := s.cfg.loops[l]
     let x := s.coils[c]
     let u := s.units[l]
     let old := (s.frost[c]).state
     let new := classify r old v
     let warms := (s.loops[l]).state = .running ∨ (s.loops[l]).state = .failover
     let taken := (s.cfg.coils[c]).options.keepwarmOk = true ∧ (s.cfg.coils[c]).valveNode ≠ none ∧ warms
     let given := { x with frostGiven := new }
     ∃ t, exec (.replyFrame bytes) s = .next t ∧ t.plans = s.plans ∧ t.cfg = s.cfg ∧ t.loops = s.loops ∧ (t.frost[c]).state = new ∧
       (t.frost[c]).value = some v ∧
       (let y := t.coils[c]
        let z := t.units[l]
        (new = old → t.coils = s.coils ∧ t.units = s.units ∧ t.summaries = s.summaries ∧ t.notice = s.notice) ∧
        (new ≠ old →
          (t.frost[c]).since = s.uptime ∧ (t.frost[c]).cause = .reading ∧ y.frostGiven = new ∧
          (new = .trip ∨ old = .trip → Source.frost ∈ t.notice.pending) ∧
          (let cs := (List.finRange 16).filter fun d => (s.cfg.coils[d]).loop = some l ∧ (s.coils[d]).service ≠ .out
           t.summaries[l] = (if ∃ d ∈ cs, (t.frost[d]).state = .trip then .tripped
             else if ∃ d ∈ cs, (t.frost[d]).state = .watch ∨ (t.frost[d]).state = .unknown then .guarded else .normal)) ∧
          (x.service = .serving → y.service = .serving ∧ y.desiredFan = t.fanDemand c) ∧
          (x.service = .shedding → new = .clear → y = given) ∧
          (x.service = .shedding → new ≠ .clear → y.service = .serving ∧ y.shed = .stopped ∧ y.cooldown = .running r.shedCooldown ∧
            z.permit ≠ some c ∧ y.desiredFan = t.fanDemand c) ∧
          (x.service = .isolated → taken → new = .trip → y.service = .keepwarm .emergency ∧ y.kwTimer = .stopped ∧
            y.kwDwell = .running r.kwDwell ∧ y.desiredValve = some r.kwPosition ∧ c ∉ z.kwQueue ∧ z.kwCount = u.kwCount) ∧
          (x.service = .isolated → taken → new = .watch →
            y.kwTimer = .stopped ∧
            (r.kwConcurrency ≤ u.kwCount → y.service = .isolated ∧ z.kwQueue = c :: u.kwQueue.filter (fun d => d ≠ c)) ∧
            (u.kwCount < r.kwConcurrency → y.service = .keepwarm .scheduled ∧ y.kwDwell = .running r.kwDwell ∧
              y.desiredValve = some r.kwPosition ∧ u.kwCount < z.kwCount)) ∧
          (x.service = .isolated → ¬ taken ∨ new = .clear ∨ new = .unknown → y = given) ∧
          (x.service = .keepwarm .scheduled → new = .trip → LoopCoilLaw s l → y.service = .keepwarm .emergency ∧
            y.kwDwell = x.kwDwell ∧ y.desiredValve = x.desiredValve ∧ (u.kwQueue = [] ∨ ¬ warms → z.kwCount = u.kwCount - 1)) ∧
          (x.service = .keepwarm .scheduled → new ≠ .trip → y = given) ∧
          (x.service ≠ .serving → x.service ≠ .shedding → x.service ≠ .isolated → x.service ≠ .keepwarm .scheduled → y = given))))

/-- The values a plan supplies: the fallback values with ceiling 100, no minimum and 16 coils at most while EMPTY; else those of the segment
at CUR, whose target, until the ramp is over, is the point the ramp has reached from ramp start, in tenths, rounded toward the target (R41,
R42).
The desired fan speed by the table of R86: 0 unless SERVING or SHEDDING, 0 under PLANT_STOP, 0 in TRIP, -shed_speed while SHEDDING, a FAN
override clipped to fan_max, else the loop's step clipped to the lesser of ceiling and fan_max and raised to fan_min unless 0; the last two
capped at fan_min in WATCH and UNKNOWN. -/
def Obligations.PlanValuesAndFanSpeeds : Prop :=
  (∀ (s : State) (l : LoopId),
     let p := s.plans[l]
     let e := s.effective l
     (p.state = .empty → e = { target := (s.cfg.loops[l]).fallbackTarget, band := (s.cfg.loops[l]).fallbackBand, ceiling := 100,
                               minCoils := 0, maxCoils := 16, ramp := 0 }) ∧
     ∀ g, p.state ≠ .empty → (p.slots)[p.cur] = some g →
       e.band = g.band ∧ e.ceiling = g.ceiling ∧ e.minCoils = g.minCoils ∧ e.maxCoils = g.maxCoils ∧ e.ramp = g.ramp ∧
       (g.ramp = 0 ∨ g.ramp * 60 ≤ p.elapsed → e.target = g.target) ∧
       ∀ t0, p.rampStart = some t0 → p.elapsed < g.ramp * 60 →
         let whole : Int := (g.ramp * 60 : Nat)
         let reached : Int := t0 * whole + (g.target - t0) * p.elapsed
         (g.target < t0 → e.target * whole ≤ reached ∧ reached < (e.target + 1) * whole ∧ g.target ≤ e.target ∧ e.target ≤ t0) ∧
         (t0 ≤ g.target → (e.target - 1) * whole < reached ∧ reached ≤ e.target * whole ∧ t0 ≤ e.target ∧ e.target ≤ g.target)) ∧
  ∀ (s : State) (c : CoilId) (l : LoopId), (s.cfg.coils[c]).loop = some l →
    let x := s.coils[c]
    let r := s.cfg.coils[c]
    let cap := fun v : Nat => if x.frostGiven = .watch ∨ x.frostGiven = .unknown then min v r.fanMin else v
    let free := s.inputs.plantStop = false ∧ x.frostGiven ≠ .trip
    let clipped := min ((s.loops[l]).fanStep * (s.cfg.loops[l]).fanStep) (min (s.effective l).ceiling r.fanMax)
    (x.service ≠ .serving → x.service ≠ .shedding → s.fanDemand c = 0) ∧
    (s.inputs.plantStop = true → s.fanDemand c = 0) ∧ (x.frostGiven = .trip → s.fanDemand c = 0) ∧
    (x.service = .shedding → free → s.fanDemand c = -((s.cfg.loops[l]).shedSpeed : Int)) ∧
    (∀ v e, x.service = .serving → free → s.overrides[c] = some ⟨.fan v, e⟩ → s.fanDemand c = (cap (min v r.fanMax) : Nat)) ∧
    (x.service = .serving → free → (∀ v e, s.overrides[c] ≠ some ⟨.fan v, e⟩) →
      s.fanDemand c = (cap (if clipped = 0 then 0 else max clipped r.fanMin) : Nat))

/-- A classification gives the new frost state from the present one and a reading, by the levels of the loop record: trip level and watch
level at or below, trip release and watch release at or above (R110, R111). -/
def Obligations.FrostIsClassifiedByTheTable : Prop :=
  ∀ (r : LoopRec) (v : Temp),
    let trip := r.freeze + r.tripMargin
    let watch := r.freeze + r.watchMargin
    let tripRelease := r.freeze + r.tripMargin + r.frostHyst
    let watchRelease := r.freeze + r.watchMargin + r.frostHyst
    (∀ f : FrostState, f = .clear ∨ f = .unknown →
      (v ≤ trip → classify r f v = .trip) ∧ (trip < v → v ≤ watch → classify r f v = .watch) ∧
      (trip < v → watch < v → classify r f v = .clear)) ∧
    (v ≤ trip → classify r .watch v = .trip) ∧ (trip < v → watchRelease ≤ v → classify r .watch v = .clear) ∧
    (trip < v → v < watchRelease → classify r .watch v = .watch) ∧
    (watchRelease ≤ v → classify r .trip v = .clear) ∧ (v < watchRelease → tripRelease ≤ v → classify r .trip v = .watch) ∧
    (v < watchRelease → v < tripRelease → classify r .trip v = .trip)

/-! ## Group requests and overrides (chapter 6) -/

/-- COIL_OUT withdraws the selected coils and reports those that were not withdrawn; the path of a coil follows its service state. Where the
last coils in SERVING or SHEDDING of a loop leave together, its bypass is opened fully with an URGENT request, and otherwise it stays.
COIL_IN brings back coils that are OUT, in COMMISSION coils that are withdrawn. A selected coil that cannot take the request refuses it for
all, with the mask of those that cannot (R70, R127 to R132).
A coil that comes back in frost state WATCH or TRIP makes its emergency request, where it is acted on (R101).
Several coils selected together, in loops whose coils keep their laws (R88, R99, R103), each take the path one alone takes; what the
emergency requests of several make of the queue is left to the order of assumption 37. -/
def Obligations.CoilOutAndCoilIn : Prop :=
  ∀ (s : State) (args : List Arg) (m : CoilSet), Ready s → badArgGroup [] args = none →
    (argOf args "coils").bind readMask = some m →
    let member := fun (x : CoilSet) (c : CoilId) => x.getLsbD c.val = true
    let assigned := fun c : CoilId => (s.cfg.coils[c]).loop ≠ none
    let canReturn := fun c : CoilId => assigned c ∧
      ((s.mode = .run ∧ (s.coils[c]).service = .out) ∨ (s.mode = .commission ∧ (s.cfg.coils[c]).withdrawn = true))
    let refusal := fun f : CoilSet => [("why", Val.word "STATE"), ("refused", .mask f)]
    (∀ f : CoilSet, f ≠ 0 →
      ((∀ c, member f c ↔ member m c ∧ ¬ assigned c) →
        exec (.coilOut args) s = .next (s.answered "COIL_OUT" .refused (refusal f))) ∧
      ((∀ c, member f c ↔ member m c ∧ ¬ canReturn c) →
        exec (.coilIn args) s = .next (s.answered "COIL_IN" .refused (refusal f)))) ∧
    ((∀ c, member m c → assigned c) → ∃ t o, exec (.coilOut args) s = .next t ∧ s.replied t "COIL_OUT" .ok [("out", .mask o)] ∧
      (∀ c, member o c ↔ member m c ∧ (s.cfg.coils[c]).withdrawn = false) ∧ t.plans = s.plans ∧ t.overrides = s.overrides ∧
      (∀ c, member m c → t.cfg.coils[c] = { s.cfg.coils[c] with withdrawn := true }) ∧
      (∀ c, ¬ member m c → t.cfg.coils[c] = s.cfg.coils[c]) ∧
      (AllReachable s → BindingLaw s.cfg → ∀ l : LoopId,
        let last := 0 < s.servingCount l ∧
          ∀ c, (s.cfg.coils[c]).loop = some l → (s.coils[c]).service = .serving ∨ (s.coils[c]).service = .shedding → member m c
        (last → (t.loops[l]).bypass = 100 ∧
          ∀ n, (s.cfg.loops[l]).bypass = some n → (t.nodes[n]).shadow.desired = some 100 ∧ ⟨n, 100, 0⟩ ∈ t.bus.urgent) ∧
        (¬ last → (t.loops[l]).bypass = (s.loops[l]).bypass)) ∧
      ∀ c, member m c → AllReachable s → ((∀ d, member m d → d = c) ∨ ∀ l : LoopId, LoopCoilLaw s l) →
        let x := s.coils[c]
        let y := t.coils[c]
        let valve := if (s.cfg.coils[c]).valveNode = none then x.desiredValve else some 0
        (x.service = .isolated → y.service = .out ∧ y.desiredValve = x.desiredValve) ∧
        (∀ k, x.service = .keepwarm k → y.service = .out ∧ y.desiredValve = valve) ∧
        (∀ k, x.service = .faulted k → y.service = .out ∧ y.desiredValve = valve) ∧
        (x.service = .serving ∨ x.service = .shedding → y.service = .retiring .rundown true ∧ y.desiredFan = 0) ∧
        (∀ k d h, x.service = .admitting k d h → y.service = .retiring .closing true ∧ y.desiredValve = valve) ∧
        (∀ p f, x.service = .retiring p f → y.service = .retiring p true) ∧
        (x.service = .out ∨ x.service = .dormant → y = x)) ∧
    ((∀ c, member m c → canReturn c) → ∃ t i, exec (.coilIn args) s = .next t ∧ s.replied t "COIL_IN" .ok [("in", .mask i)] ∧
      (∀ c, member i c ↔ member m c) ∧ t.plans = s.plans ∧ t.overrides = s.overrides ∧
      (∀ c, member m c → t.cfg.coils[c] = { s.cfg.coils[c] with withdrawn := false }) ∧
      (∀ c, ¬ member m c → t.cfg.coils[c] = s.cfg.coils[c]) ∧
      ∀ c, member m c → AllReachable s → ((∀ d, member m d → d = c) ∨ ∀ l : LoopId, LoopCoilLaw s l) →
        (s.mode = .run → ∀ l, (s.cfg.coils[c]).loop = some l →
          (¬ s.asks c l → (t.coils[c]).service = .isolated) ∧
          (s.asks c l → (∀ d, member m d → d = c) → s.requestServed t c l (s.units[l]).kwCount)) ∧
        (s.mode = .commission → (s.coils[c]).service = .dormant → t.coils[c] = s.coils[c]))

/-- COIL_AMEND sets, for each option in mask, the value PUT, AND, OR or XOR gives it, and keeps the others; COIL_LIMITS writes the fan
limits it names, and a coil whose fan_max would not stay above its fan_min refuses. Both report the coils that changed (R128, R133, R134).
An option that changes acts at once: KEEPWARM_OK cleared takes the coil from the keep-warm queue and stops its keep-warm timer, while a
running cycle goes on; set, it starts the timer of an ISOLATED coil with a valve node in a loop that is not IDLE; SHED_OK or REVERSE_OK
cleared ends the shedding of a SHEDDING coil, with its cooldown, its fan speed computed anew and sent ROUTINE. Where no SHEDDING coil is
selected the shed queues and permits stay, and a coil whose options stay is left as it is unless it is SERVING, when a freed permit may come
to it (R98, R103, R104, R133). After COIL_LIMITS the desired fan speed of every selected coil is computed anew and sent ROUTINE (R87, R134).
A COIL_LIMITS with neither key is OK and changes nothing (R134); that it is so also where the mask holds unassigned coils, since it answers
before its coils are checked, is the model's reading (assumption 9). -/
def Obligations.AmendAndLimitsWriteCoilRecords : Prop :=
  ∀ (s : State) (m : CoilSet), Ready s →
    let member := fun (x : CoilSet) (c : CoilId) => x.getLsbD c.val = true
    let assigned := fun c : CoilId => (s.cfg.coils[c]).loop ≠ none
    let refusal := fun f : CoilSet => [("why", Val.word "STATE"), ("refused", .mask f)]
    (∀ x ∈ [(Instr.coilAmendPut, "PUT", fun _ given : Bool => given), (.coilAmendAnd, "AND", fun old given => old && given),
        (.coilAmendOr, "OR", fun old given => old || given), (.coilAmendXor, "XOR", fun old given => Bool.xor old given)],
      ∀ (rest : List Arg) (opts mask : List OptName),
        let args := kv "op" x.2.1 :: rest
        badArgGroup [.need "op" [.name] (known readAmendOp), optsKey "opts", optsKey "mask"] args = none →
        (argOf args "coils").bind readMask = some m → (argOf args "opts").bind (readList readOptName) = some opts →
        (argOf args "mask").bind (readList readOptName) = some mask →
        (∀ f : CoilSet, f ≠ 0 → (∀ c, member f c ↔ member m c ∧ ¬ assigned c) →
          exec (x.1 rest) s = .next (s.answered "COIL_AMEND" .refused (refusal f))) ∧
        ((∀ c, member m c → assigned c) → ∃ t ch, exec (x.1 rest) s = .next t ∧
          s.replied t "COIL_AMEND" .ok [("changed", .mask ch)] ∧ t.plans = s.plans ∧ t.overrides = s.overrides ∧
          (∀ c, member ch c ↔ member m c ∧ (t.cfg.coils[c]).options ≠ (s.cfg.coils[c]).options) ∧
          (∀ c, member m c → t.cfg.coils[c] = { s.cfg.coils[c] with options := (t.cfg.coils[c]).options } ∧
            ∀ k : OptName, (t.cfg.coils[c]).options.has k =
              (if k ∈ mask then x.2.2 ((s.cfg.coils[c]).options.has k) (decide (k ∈ opts)) else (s.cfg.coils[c]).options.has k)) ∧
          (∀ c, ¬ member m c → t.cfg.coils[c] = s.cfg.coils[c]) ∧
          (AllReachable s →
            ((∀ c, member m c → (s.coils[c]).service ≠ .shedding) →
              ∀ l : LoopId, (t.units[l]).shedQueue = (s.units[l]).shedQueue ∧ (t.units[l]).permit = (s.units[l]).permit) ∧
            ∀ (c : CoilId) (l : LoopId), (s.cfg.coils[c]).loop = some l →
              let old := (s.cfg.coils[c]).options
              let new := (t.cfg.coils[c]).options
              let x := s.coils[c]
              let y := t.coils[c]
              (new = old → x.service ≠ .serving → y = x) ∧
              (old.keepwarmOk = true → new.keepwarmOk = false → c ∉ (t.units[l]).kwQueue ∧ y.kwTimer = .stopped ∧ y.kwDwell = x.kwDwell ∧
                ∀ k, x.service = .keepwarm k → y.service = .keepwarm k) ∧
              (old.keepwarmOk = false → new.keepwarmOk = true → y.kwTimer =
                if x.service = .isolated ∧ (s.cfg.coils[c]).valveNode ≠ none ∧ (s.loops[l]).state ≠ .idle
                then .running (s.cfg.loops[l]).kwInterval else x.kwTimer) ∧
              (x.service = .shedding →
                (old.shedOk = true ∧ new.shedOk = false) ∨ (old.reverseOk = true ∧ new.reverseOk = false) →
                y.service = .serving ∧ y.shed = .stopped ∧ y.cooldown = .running (s.cfg.loops[l]).shedCooldown ∧
                (t.units[l]).permit ≠ some c ∧ y.desiredFan = t.fanDemand c ∧ s.fanSent t c)))) ∧
    ∀ args : List Arg, badArgGroup [.may "fan_min" [.int] (intIn 10 50), .may "fan_max" [.int] (intIn 50 100)] args = none →
      (argOf args "coils").bind readMask = some m →
      let given := fun (k : String) (old : Nat) => match (argOf args k).bind readInt with
        | some v => v.toNat
        | none => old
      let lo := fun c : CoilId => given "fan_min" (s.cfg.coils[c]).fanMin
      let hi := fun c : CoilId => given "fan_max" (s.cfg.coils[c]).fanMax
      let able := fun c : CoilId => assigned c ∧ lo c < hi c
      (argOf args "fan_min" = none → argOf args "fan_max" = none →
        exec (.coilLimits args) s = .next (s.answered "COIL_LIMITS" .ok [("changed", .mask 0)])) ∧
      (argOf args "fan_min" ≠ none ∨ argOf args "fan_max" ≠ none →
        (∀ f : CoilSet, f ≠ 0 → (∀ c, member f c ↔ member m c ∧ ¬ able c) →
          exec (.coilLimits args) s = .next (s.answered "COIL_LIMITS" .refused (refusal f))) ∧
        ((∀ c, member m c → able c) → ∃ t ch, exec (.coilLimits args) s = .next t ∧
          s.replied t "COIL_LIMITS" .ok [("changed", .mask ch)] ∧ t.plans = s.plans ∧ t.overrides = s.overrides ∧
          (∀ c, member ch c ↔ member m c ∧ (lo c ≠ (s.cfg.coils[c]).fanMin ∨ hi c ≠ (s.cfg.coils[c]).fanMax)) ∧
          (∀ c, member m c → t.cfg.coils[c] = { s.cfg.coils[c] with fanMin := lo c, fanMax := hi c }) ∧
          (∀ c, ¬ member m c → t.cfg.coils[c] = s.cfg.coils[c]) ∧
          (AllReachable s → t.units = s.units ∧ ∀ c : CoilId,
            (¬ member m c ∨ (s.coils[c]).service = .dormant → t.coils[c] = s.coils[c]) ∧
            (member m c → (s.coils[c]).service ≠ .dormant →
              t.coils[c] = { s.coils[c] with desiredFan := t.fanDemand c } ∧ s.fanSent t c))))

/-- OVERRIDE_SET makes a new entry for each selected coil, with the uptime of its expiry where for is given; OVERRIDE_CLEAR removes entries
and reports those removed; an entry whose expiry is reached is removed, and OVERRIDE raised. The desired fan speed of each coil whose entry
is made or removed is computed anew, unless it is DORMANT (R86, R136 to R138). That OVERRIDE_EXPIRY has no effect before its uptime is the
model's choice (assumption 2). -/
def Obligations.OverridesAreSetClearedAndExpire : Prop :=
  ∀ (s : State),
    let member := fun (x : CoilSet) (c : CoilId) => x.getLsbD c.val = true
    let assigned := fun c : CoilId => (s.cfg.coils[c]).loop ≠ none
    let refusal := fun f : CoilSet => [("why", Val.word "STATE"), ("refused", .mask f)]
    (∀ (args : List Arg) (m : CoilSet) (isFan : Bool) (o : Override), Ready s → badArgGroup (overrideKeys (some isFan)) args = none →
      (argOf args "coils").bind readMask = some m → argOf args "kind" = some (if isFan then "FAN" else "HOLD") →
      (match o.kind with
       | .fan v => isFan = true ∧ (argOf args "value").bind readInt = some (v : Int)
       | .hold => isFan = false) →
      o.expiry = ((argOf args "for").bind readInt).map (fun n => s.uptime + n.toNat) →
      (∀ f : CoilSet, f ≠ 0 → (∀ c, member f c ↔ member m c ∧ ¬ assigned c) →
        exec (.overrideSet args) s = .next (s.answered "OVERRIDE_SET" .refused (refusal f))) ∧
      ((∀ c, member m c → assigned c) → ∃ t k, exec (.overrideSet args) s = .next t ∧
        s.replied t "OVERRIDE_SET" .ok [("set", .mask k)] ∧ (∀ c, member k c ↔ member m c) ∧ t.plans = s.plans ∧
        t.cfg.coils = s.cfg.coils ∧ (∀ c, member m c → t.overrides[c] = some o) ∧
        (∀ c, ¬ member m c → t.overrides[c] = s.overrides[c]) ∧
        (AllReachable s → ∀ c, member m c → (s.coils[c]).service ≠ .dormant →
          (t.coils[c]).desiredFan = t.fanDemand c ∧
          (isFan = true → (s.coils[c]).service = .shedding → (t.coils[c]).service = .serving)))) ∧
    (∀ (args : List Arg) (m : CoilSet), Ready s → badArgGroup [] args = none → (argOf args "coils").bind readMask = some m →
      (∀ f : CoilSet, f ≠ 0 → (∀ c, member f c ↔ member m c ∧ ¬ assigned c) →
        exec (.overrideClear args) s = .next (s.answered "OVERRIDE_CLEAR" .refused (refusal f))) ∧
      ((∀ c, member m c → assigned c) → ∃ t k, exec (.overrideClear args) s = .next t ∧
        s.replied t "OVERRIDE_CLEAR" .ok [("cleared", .mask k)] ∧ t.plans = s.plans ∧ t.cfg.coils = s.cfg.coils ∧
        (∀ c, member k c ↔ member m c ∧ s.overrides[c] ≠ none) ∧
        (∀ c, t.overrides[c] = if member m c then none else s.overrides[c]) ∧
        (AllReachable s → ∀ c, member k c → (s.coils[c]).service ≠ .dormant → (t.coils[c]).desiredFan = t.fanDemand c))) ∧
    ∀ c : CoilId, s.bus.lost = [] →
      let due := ∃ o e, s.overrides[c] = some o ∧ o.expiry = some e ∧ e ≤ s.uptime
      (¬ due → exec (.overrideExpiry c) s = .next s) ∧
      (due → ∃ t, exec (.overrideExpiry c) s = .next t ∧ t.link = s.link ∧ t.plans = s.plans ∧ t.cfg.coils = s.cfg.coils ∧
        t.overrides = s.overrides.set c none ∧ Source.override ∈ t.notice.pending ∧
        (AllReachable s → (s.coils[c]).service ≠ .dormant → (t.coils[c]).desiredFan = t.fanDemand c))

/-! ## The roof bus (chapter 7) -/

/-- BUS_GRANT grants nothing while the bus is DOWN or a transaction is in flight. Otherwise the line goes to the poller where it waits and
six grants in a row have passed it, else to the oldest entry of the URGENT queue whose node is ONLINE or SUSPECT, else of ROUTINE, else to
the waiting pass-through request, else to the poller; a granted entry leaves its queue and its shadow is IN_FLIGHT (R147, R154, R158). -/
def Obligations.TheArbiterGrantsInOrder : Prop :=
  ∀ s : State, s.bus.lost = [] →
    let free := s.bus.line = .up ∧ s.bus.flight = none
    let able := fun e : Entry => (s.nodes[e.node]).state = .online ∨ (s.nodes[e.node]).state = .suspect
    let waits := s.bus.poller.phase = .waiting
    let more := min 6 (s.bus.share + 1)
    let passed := ∃ t, exec .busGrant s = .next t ∧ t.cfg = s.cfg ∧ t.link = s.link ∧ t.coils = s.coils ∧ t.loops = s.loops
    passed ∧ (¬ free → exec .busGrant s = .next s) ∧
    (free → (waits → s.nextPoll ≠ none) →
      (∀ n k kind p, waits → s.nextPoll = some (n, k, kind, p) →
        s.bus.share = 6 ∨ ((∀ e ∈ s.bus.urgent ++ s.bus.routine, ¬ able e) ∧ ∀ r j, s.bus.pass ≠ .waiting r j) →
        exec .busGrant s = .next { s with bus := { s.bus with
          poller := { s.bus.poller with node := n.val, step := k }
          share := 0
          rx := []
          flight := some { src := .poller, kind := kind, node := n, point := p, value := 0, window := s.cfg.site.replyWindow } } }) ∧
      (¬ waits ∨ s.bus.share ≠ 6 →
        (∀ (u : Urgency) (e : Entry),
          (u = .urgent ∧ s.bus.urgent.find? (fun x => decide (able x)) = some e) ∨
          (u = .routine ∧ (∀ x ∈ s.bus.urgent, ¬ able x) ∧ s.bus.routine.find? (fun x => decide (able x)) = some e) →
          exec .busGrant s = .next { s with
            nodes := s.nodes.set e.node { s.nodes[e.node] with shadow := { (s.nodes[e.node]).shadow with state := .inFlight } }
            bus := { s.bus with
              urgent := s.bus.urgent.filter fun x => x.node ≠ e.node
              routine := s.bus.routine.filter fun x => x.node ≠ e.node
              share := more
              rx := []
              flight := some { src := .command u e.refusals false, kind := .write, node := e.node, point := 0, value := e.value,
                               window := s.cfg.site.replyWindow } } }) ∧
        (∀ r j, (∀ e ∈ s.bus.urgent ++ s.bus.routine, ¬ able e) → s.bus.pass = .waiting r j →
          exec .busGrant s = .next { s with bus := { s.bus with
            pass := .inFlight r
            share := more
            rx := []
            flight := some { src := .pass, kind := r.kind, node := r.node, point := r.point, value := r.value,
                             window := s.cfg.site.replyWindow } } })))

/-- A READ or WRITE that gets no complete reply is TIMEOUT: a first miss makes an ONLINE node SUSPECT, a third makes it OFFLINE with its
points ABSENT and NODE raised; a LINE_ERROR leaves the node as it was, and three in a row make the bus DOWN for 5 s. Bytes of a reply
short of seven are kept, a gap discards them, and bytes with no transaction in flight are discarded (R141, R144, R151). That the last
status is none after TIMEOUT (assumption 22), and that REPLY_WINDOW_EXPIRY and ECHO_MISMATCH have no effect with no transaction in flight
(assumption 2), is the model's choice.
An IDENT: a GOOD of the recorded role makes an UNSEEN or OFFLINE node ONLINE, one of another role makes any node but a WRONG_ROLE one
WRONG_ROLE, and the reported role is kept; REFUSED, BADFRAME and TIMEOUT keep the role reported before, leave UNSEEN with miss 0 and OFFLINE
with miss 3, count as a READ's for an ONLINE or SUSPECT node, and a WRONG_ROLE node stays so; LINE_ERROR changes none of these (R144, R145).
That an OFFLINE node keeps its miss count as it becomes WRONG_ROLE is the model's choice (assumption 22).
At a node's entry to OFFLINE its queued command is discarded, its shadow SETTLED, and the command lost: a coil that takes a fault becomes
FAULTED with cause NODE; a coil in OUT, a pump and a bypass of a loop that is not IDLE hold the point as unsent, and the pump is FAULTED
(R53, R72, R105, R131, R146, R156).
As a node becomes ONLINE from OFFLINE, an unsent point's present desired value is placed again and the point is no longer unsent: ROUTINE,
but URGENT for a bypass at 100 with none serving; a FAULTED coil places no valve command (R72, R84, R131, R146). A granted command that ends
with TIMEOUT or LINE_ERROR joins the tail of its queue again, its shadow QUEUED, unless a newer value waits or the command left RUN in flight
(R13, R155). That an UNSEEN node resends too, and that refusals then count from 0, is the model's reading (assumption 19). -/
def Obligations.MissedRepliesCountAgainstTheNode : Prop :=
  ∀ s : State, s.bus.lost = [] →
    exec .replyByteGap s = .next { s with bus := { s.bus with rx := [] } } ∧
    (s.bus.flight = none → exec .replyWindowExpiry s = .next s ∧ exec .echoMismatch s = .next s ∧
      ∀ bytes, exec (.replyFrame bytes) s = .next s) ∧
    ∀ f, s.bus.flight = some f →
      let n := f.node
      let role := (s.cfg.nodes[n]).role
      let e := s.nodes[n]
      (∀ bytes, (s.bus.rx ++ bytes).length < 7 →
        exec (.replyFrame bytes) s = .next { s with bus := { s.bus with rx := s.bus.rx ++ bytes } }) ∧
      (role ≠ .none → f.kind ≠ .ident → ∃ t, exec .replyWindowExpiry s = .next t ∧ t.bus.flight = none ∧
        t.bus.rx = [] ∧ t.bus.lineErrors = 0 ∧
        (let y := t.nodes[n]
         y.lastOutcome = some .timeout ∧ y.lastStatus = none ∧ y.lastHeard = e.lastHeard ∧
         (e.state = .online → y.state = .suspect ∧ y.miss = 1) ∧
         (e.state = .suspect → e.miss < 2 → y.state = .suspect ∧ y.miss = e.miss + 1) ∧
         (e.state = .suspect → 2 ≤ e.miss → y.state = .offline ∧ y.miss = 3 ∧ Source.node ∈ t.notice.pending ∧
           ∀ p : Fin 4, ((y.points)[p]).fresh = .absent) ∧
         (e.state = .unseen ∨ e.state = .offline ∨ e.state = .wrongRole → y.state = e.state ∧ y.miss = e.miss))) ∧
      (∃ t, exec .echoMismatch s = .next t ∧ t.bus.flight = none ∧ (t.nodes[n]).lastOutcome = some .lineError ∧
        (t.nodes[n]).state = e.state ∧ (t.nodes[n]).miss = e.miss ∧ (t.nodes[n]).points = e.points ∧
        (t.nodes[n]).reported = e.reported ∧
        (s.bus.lineErrors < 2 → t.bus.lineErrors = s.bus.lineErrors + 1 ∧ t.bus.line = s.bus.line) ∧
        (2 ≤ s.bus.lineErrors → t.bus.lineErrors = 3 ∧ t.bus.line = .down 5 ∧ Source.bus ∈ t.notice.pending)) ∧
      (role ≠ .none → f.kind = .ident →
        (∀ bytes st v, 7 ≤ (s.bus.rx ++ bytes).length → replyResult f ((s.bus.rx ++ bytes).take 7) = ⟨.good, st, some v⟩ →
          let same := v = (match role with
            | .fan => 1
            | .valve => 2
            | .pump => 3
            | .sensor => 4
            | .none => 0)
          ∃ t, exec (.replyFrame bytes) s = .next t ∧
            (let y := t.nodes[n]
             y.reported = some v ∧
             (e.state ≠ .wrongRole → same → y.state = .online ∧ y.miss = 0) ∧
             (e.state ≠ .wrongRole → ¬ same → y.state = .wrongRole ∧ Source.node ∈ t.notice.pending ∧
               (∀ p : Fin 4, ((y.points)[p]).fresh = .absent) ∧
               y.miss = (if e.state = .online ∨ e.state = .suspect then 0 else e.miss)) ∧
             (e.state = .wrongRole → y.state = .wrongRole ∧ y.miss = e.miss))) ∧
        (∀ bytes st v, 7 ≤ (s.bus.rx ++ bytes).length → replyResult f ((s.bus.rx ++ bytes).take 7) = ⟨.refused, st, v⟩ →
          ∃ t, exec (.replyFrame bytes) s = .next t ∧
            (let y := t.nodes[n]
             y.reported = e.reported ∧ (e.state = .unseen → y.state = .unseen ∧ y.miss = 0) ∧
             (e.state = .offline → y.state = .offline ∧ y.miss = 3) ∧
             (e.state = .online ∨ e.state = .suspect → y.state = .online ∧ y.miss = 0) ∧
             (e.state = .wrongRole → y.state = .wrongRole ∧ y.miss = e.miss))) ∧
        ∀ i : Instr, (i = .replyWindowExpiry ∨ ∃ bytes, i = .replyFrame bytes ∧ 7 ≤ (s.bus.rx ++ bytes).length ∧
            replyResult f ((s.bus.rx ++ bytes).take 7) = ⟨.badFrame, none, none⟩) →
          ∃ t, exec i s = .next t ∧
          (let y := t.nodes[n]
           y.reported = e.reported ∧ y.lastOutcome = some (if i = .replyWindowExpiry then .timeout else .badFrame) ∧ (e.state = .unseen → y.state = .unseen ∧ y.miss = 0) ∧
           (e.state = .offline → y.state = .offline ∧ y.miss = 3) ∧
           (e.state = .online → y.state = .suspect ∧ y.miss = 1) ∧
           (e.state = .suspect → e.miss < 2 → y.state = .suspect ∧ y.miss = e.miss + 1) ∧
           (e.state = .suspect → 2 ≤ e.miss → y.state = .offline ∧ y.miss = 3) ∧
           (e.state = .wrongRole → y.state = .wrongRole ∧ y.miss = e.miss))) ∧
      (∀ bytes st v, f.kind = .ident → 7 ≤ (s.bus.rx ++ bytes).length →
        replyResult f ((s.bus.rx ++ bytes).take 7) = ⟨.good, st, some v⟩ → role ≠ .none → roleMatches role v = true →
        e.state = .offline ∨ e.state = .unseen → Settings.timesBound s.cfg n ≤ 1 → (∀ q ∈ s.bus.urgent, q.node ≠ n) →
        ∃ t, exec (.replyFrame bytes) s = .next t ∧
          (∀ (l : LoopId) (p : PumpId), (s.cfg.loops[l]).pumpNode p = some n →
            let q := (s.loops[l]).pump p
            (q.unsent = false → t.loops[l] = s.loops[l]) ∧
            (q.unsent = true → t.loops[l] = (s.loops[l]).modPump p (fun q => { q with unsent := false }) ∧
              ⟨n, if q.run then 1 else 0, 0⟩ ∈ t.bus.routine)) ∧
          (∀ l : LoopId, (s.cfg.loops[l]).bypass = some n →
            let x := s.loops[l]
            (x.bypassUnsent = false → t.loops[l] = x) ∧
            (x.bypassUnsent = true → t.loops[l] = { x with bypassUnsent := false } ∧
              ⟨n, x.bypass, 0⟩ ∈ (if x.bypass = 100 ∧ s.servingCount l = 0 then t.bus.urgent else t.bus.routine))) ∧
          ∀ c : CoilId,
            let x := s.coils[c]
            ((s.cfg.coils[c]).fanNode = some n →
              (x.fanUnsent = false → t.coils[c] = x) ∧
              (x.fanUnsent = true → t.coils[c] = { x with fanUnsent := false } ∧ ⟨n, x.desiredFan, 0⟩ ∈ t.bus.routine)) ∧
            ((s.cfg.coils[c]).valveNode = some n →
              (x.valveUnsent = false ∨ (∃ k, x.service = .faulted k) → t.coils[c] = x) ∧
              ∀ pos, x.valveUnsent = true → (∀ k, x.service ≠ .faulted k) → x.desiredValve = some pos →
                t.coils[c] = { x with valveUnsent := false } ∧ ⟨n, pos, 0⟩ ∈ t.bus.routine)) ∧
      (∀ (i : Instr) (u : Urgency) (k : Nat) (lapsed : Bool), f.src = .command u k lapsed → f.kind = .write →
        i = .echoMismatch ∨ (i = .replyWindowExpiry ∧ ¬ (role ≠ .none ∧ e.state = .suspect ∧ 2 ≤ e.miss)) →
        let waits := s.bus.queued n = true
        let kept := fun t : State => t.bus.urgent = s.bus.urgent ∧ t.bus.routine = s.bus.routine
        let shadow := fun (t : State) (st : ShadowState) => (t.nodes[n]).shadow = { e.shadow with state := st }
        ∃ t, exec i s = .next t ∧ (waits → shadow t .queued ∧ kept t) ∧ (¬ waits → lapsed = true → shadow t .settled ∧ kept t) ∧
          (¬ waits → lapsed = false → shadow t .queued ∧
            t.bus.urgent = (if u = .urgent then s.bus.urgent ++ [⟨n, f.value, 0⟩] else s.bus.urgent) ∧
            t.bus.routine = (if u = .routine then s.bus.routine ++ [⟨n, f.value, 0⟩] else s.bus.routine))) ∧
      (AllReachable s → role ≠ .none → e.state = .suspect → 2 ≤ e.miss → (∀ pt ∈ s.cfg.points, pt.node ≠ n) →
        Settings.timesBound s.cfg n ≤ 1 →
        let waiting := s.bus.queued n = true ∨ ∃ u k, f.src = .command u k false
        ∃ t, exec .replyWindowExpiry s = .next t ∧ (t.nodes[n]).state = .offline ∧
          (∀ q ∈ t.bus.urgent ++ t.bus.routine, q.node ≠ n) ∧ (waiting → (t.nodes[n]).shadow.state = .settled) ∧
          (∀ (c : CoilId) (l : LoopId), (s.cfg.coils[c]).loop = some l →
            (s.cfg.coils[c]).fanNode = some n ∨ (s.cfg.coils[c]).valveNode = some n →
            (s.coils[c]).service.takesFault → (s.loops[l]).state ≠ .idle →
            (t.coils[c]).service = .faulted .node ∧ (t.coils[c]).desiredFan = 0 ∧ Source.coil ∈ t.notice.pending) ∧
          (∀ c : CoilId, (s.coils[c]).service = .out →
            ((s.cfg.coils[c]).fanNode = some n → waiting → t.coils[c] = { s.coils[c] with fanUnsent := true }) ∧
            ((s.cfg.coils[c]).valveNode = some n → waiting → t.coils[c] = { s.coils[c] with valveUnsent := true })) ∧
          ∀ l : LoopId, (s.loops[l]).state ≠ .idle →
            ((s.cfg.loops[l]).bypass = some n → waiting → (t.loops[l]).bypassUnsent = true) ∧
            ∀ p : PumpId, (s.cfg.loops[l]).pumpNode p = some n →
              (waiting → ((t.loops[l]).pump p).unsent = true) ∧
              ((s.loops[l]).state ≠ .failover ∨ p ≠ (s.loops[l]).duty ∨ (s.loops[l]).reason = some .planned →
                ((t.loops[l]).pump p).faulted = true))

/-- A complete reply with the address, the kind and the check right is GOOD for ACCEPT and DRIVE_FAULT and REFUSED for REFUSE, and any other
is BADFRAME. An answered node is ONLINE with miss 0; a GOOD READ of a polled point makes the point FRESH with the reply's value and the
present uptime, and classifies each coil whose outlet it is (R112, R141, R144, R149, R195). A granted command's GOOD settles its shadow. One
that fails with no newer value behind it joins the tail of its queue again, its refusals raised by a REFUSE; with a newer value behind it it
is dropped and the newer stands. The third refusal in a row discards it: its shadow is SETTLED, COMMAND_LOST is traced with cause REFUSED,
and the owner takes the loss: a coil in OUT, a bypass and a pump keep the point unsent, a pump and a coil that takes a fault become FAULTED.
A command that left RUN in flight is not put back (R13). The third miss takes the node OFFLINE with what is queued for it (R13, R53, R72,
R105, R131, R155, R156). The model's choices: a failure that is no refusal sets the refusals to 0 and a dropped value is not itself
reported lost (assumption 19), the last status is none after BADFRAME (22), a good read makes its point FRESH whatever the state of the
node (23), and of more than seven bytes the first seven are the reply (33). -/
def Obligations.RepliesActOnNodesPointsAndShadows : Prop :=
  ∀ (s : State) (f : Flight) (bytes : List Byte) (a k st hi lo c1 c2 : Byte), s.bus.lost = [] → s.bus.flight = some f →
    (s.bus.rx ++ bytes).take 7 = [a, k, st, hi, lo, c1, c2] → (s.cfg.nodes[f.node]).role ≠ .none → f.kind ≠ .ident →
    let sound := a = BitVec.ofNat 8 (f.node.val + 1) ∧ k = (if f.kind = .read then 1#8 else 2#8) ∧ crc16 [a, k, st, hi, lo] = c1 ++ c2
    let v := (hi ++ lo).toInt
    let e := s.nodes[f.node]
    let live := e.state = .online ∨ e.state = .suspect
    let bad := ¬ sound ∨ (st ≠ 0#8 ∧ st ≠ 1#8 ∧ st ≠ 2#8)
    let refused := sound ∧ st = 1#8
    let stays := ¬ (bad ∧ e.state = .suspect ∧ 2 ≤ e.miss)
    ∃ t, exec (.replyFrame bytes) s = .next t ∧ t.bus.flight = none ∧ t.bus.rx = [] ∧ t.bus.lineErrors = 0 ∧
      (let y := t.nodes[f.node]
       (sound → st = 0#8 ∨ st = 2#8 → y.lastOutcome = some .good ∧ y.lastHeard = some s.uptime ∧
         y.lastStatus = some (if st = 0#8 then .accept else .driveFault)) ∧
       (sound → st = 1#8 → y.lastOutcome = some .refused ∧ y.lastHeard = some s.uptime ∧ y.lastStatus = some .refuse) ∧
       (bad → y.lastOutcome = some .badFrame ∧ y.lastStatus = none ∧
         y.lastHeard = e.lastHeard ∧ (e.state = .online → y.state = .suspect ∧ y.miss = 1)) ∧
       (sound → st = 0#8 ∨ st = 1#8 ∨ st = 2#8 → live → y.state = .online ∧ y.miss = 0) ∧
       (∀ p : Fin 4, f.kind = .read → f.point = p.val → (s.cfg.nodes[f.node]).polls p.val = true → sound → st = 0#8 ∨ st = 2#8 →
         (y.points)[p] = { value := some v, readAt := some s.uptime, fresh := .fresh } ∧
         ∀ (c : CoilId) (l : LoopId), (s.cfg.coils[c]).loop = some l → (s.cfg.coils[c]).outletPt = some ⟨f.node, p.val⟩ →
           (t.frost[c]).value = some v ∧ (t.frost[c]).state = classify (s.cfg.loops[l]) (s.frost[c]).state v) ∧
       (∀ u n, f.src = .command u n false → f.kind = .write → sound → st = 0#8 ∨ st = 2#8 → live →
         y.shadow = { e.shadow with sent := some f.value, state := if s.bus.queued f.node = true then .queued else .settled }) ∧
       (bad → e.state = .suspect → 2 ≤ e.miss →
         y.state = .offline ∧ y.miss = 3 ∧ ∀ q ∈ t.bus.urgent ++ t.bus.routine, q.node ≠ f.node) ∧
       (∀ u n lapsed, f.src = .command u n lapsed → f.kind = .write →
         let waits := s.bus.queued f.node = true
         let kept := t.bus.urgent = s.bus.urgent ∧ t.bus.routine = s.bus.routine
         let quiet := y.shadow = { e.shadow with state := .settled } ∧ kept ∧
           t.trace = (s.event (.point f.node 0) .commandLost [("cause", .word "REFUSED")]).trace
         (stays → bad ∨ refused → waits → y.shadow = { e.shadow with state := .queued } ∧ kept) ∧
         (stays → bad ∨ refused → ¬ waits → lapsed = true → y.shadow = { e.shadow with state := .settled } ∧ kept) ∧
         (stays → bad ∨ (refused ∧ n < 2) → ¬ waits → lapsed = false →
           y.shadow = { e.shadow with state := .queued } ∧
           (let again : Entry := ⟨f.node, f.value, if refused then n + 1 else 0⟩
            t.bus.urgent = (if u = .urgent then s.bus.urgent ++ [again] else s.bus.urgent) ∧
            t.bus.routine = (if u = .routine then s.bus.routine ++ [again] else s.bus.routine))) ∧
         (refused → 2 ≤ n → ¬ waits → lapsed = false →
           (s.ownerOf f.node = none → quiet) ∧
           (∀ c : CoilId, s.ownerOf f.node = some (.coilFan c) ∨ s.ownerOf f.node = some (.coilValve c) →
             ((s.coils[c]).service = .out → quiet ∧ t.coils[c] =
               if s.ownerOf f.node = some (.coilFan c) then { s.coils[c] with fanUnsent := true }
               else { s.coils[c] with valveUnsent := true }) ∧
             (AllReachable s → (∃ l, (s.cfg.coils[c]).loop = some l ∧ (s.loops[l]).state ≠ .idle) →
               (s.coils[c]).service.takesFault →
               (t.coils[c]).service = .faulted .lost ∧ (t.coils[c]).desiredFan = 0 ∧ Source.coil ∈ t.notice.pending)) ∧
           ∀ l : LoopId, (s.loops[l]).state ≠ .idle →
             (s.ownerOf f.node = some (.bypass l) → quiet ∧ (t.loops[l]).bypassUnsent = true) ∧
             ∀ p : PumpId, AllReachable s → s.ownerOf f.node = some (.pump l p) →
               ((t.loops[l]).pump p).unsent = true ∧
               ((s.loops[l]).state ≠ .failover ∨ p ≠ (s.loops[l]).duty ∨ (s.loops[l]).reason = some .planned →
                 ((t.loops[l]).pump p).faulted = true))))

/-- The DOWN timer's expiry makes the bus UP with its count 0, traced, and BUS raised. A round begins with the poller waiting at the first
node; where no node calls for a transaction it ends as it begins, and the next begins after the spacing, or 1 s. What a node calls for
follows its state and role; that an IDENT is made at the first step of a turn alone is the model's choice (assumption 53). A node that
becomes ONLINE by a pass-through IDENT in the midst of its turn is not read again in that round: the poller's position is past it (R147);
any other position stays, so that a node whose turn is to come is read in this round (assumption 53). A FRESH point whose age passes
stale_limit becomes STALE with its value kept, and makes the frost state of a coil whose outlet it is UNKNOWN (R113, R147, R148, R150,
R151). An event whose condition does not hold has no effect (assumption 2); that an empty round counts as a round is the model's reading,
and that a round with nothing to ask but of OFFLINE nodes is empty too is its choice (assumption 24), and the key state of the BUS entry
is its choice (assumption 15). -/
def Obligations.BusTimersAndThePoller : Prop :=
  (∀ s : State, s.bus.lost = [] →
    (s.bus.line = .up → exec .busDownExpiry s = .next s) ∧
    (∀ j, s.bus.line = .down j → exec .busDownExpiry s = .next
      ((({ s with bus := { s.bus with line := .up, lineErrors := 0 } } : State).event .bus .bus [("state", .word "UP")]).raise .bus)) ∧
    (s.bus.poller.phase = .waiting → exec .roundStart s = .next s) ∧
    (∀ j, s.bus.poller.phase = .spacing j →
      let asks := ∃ n : NodeId, pollAt s.bus.poller.round (s.cfg.nodes[n]) (s.nodes[n]).state 0 ≠ none
      (asks → exec .roundStart s = .next { s with bus := { s.bus with
        poller := { s.bus.poller with phase := .waiting, node := 0, step := 0 } } }) ∧
      (¬ asks → exec .roundStart s = .next { s with bus := { s.bus with
        poller := { round := (s.bus.poller.round + 1) % 8, phase := .spacing (max 1 s.cfg.site.roundSpacing), node := 0,
                    step := 0 } } })) ∧
    ∀ (n : NodeId) (p : Fin 4),
      let e := ((s.nodes[n]).points)[p]
      let old := e.fresh = .fresh ∧ ∃ r, e.readAt = some r ∧ s.cfg.site.staleLimit < s.uptime - r
      (¬ old → exec (.pointStale n p) s = .next s) ∧
      (old → ∃ t, exec (.pointStale n p) s = .next t ∧ t.link = s.link ∧ t.plans = s.plans ∧
        ((t.nodes[n]).points)[p] = { e with fresh := .stale } ∧
        ∀ (c : CoilId) (l : LoopId), (s.cfg.coils[c]).loop = some l → (s.cfg.coils[c]).outletPt = some ⟨n, p.val⟩ →
          (t.frost[c]).state = .unknown ∧ (t.frost[c]).value = (s.frost[c]).value)) ∧
  (∀ (s : State) (f : Flight) (bytes : List Byte) (st : Option BusStatus) (v : Int), s.bus.lost = [] → s.bus.flight = some f →
     f.src ≠ .poller → f.kind = .ident → 7 ≤ (s.bus.rx ++ bytes).length →
     replyResult f ((s.bus.rx ++ bytes).take 7) = ⟨.good, st, some v⟩ → (s.cfg.nodes[f.node]).role ≠ .none →
     roleMatches (s.cfg.nodes[f.node]).role v = true → (s.nodes[f.node]).state = .offline ∨ (s.nodes[f.node]).state = .unseen →
     let q := s.bus.poller
     ∃ t, exec (.replyFrame bytes) s = .next t ∧ (t.nodes[f.node]).state = .online ∧
       t.bus.poller = if q.node = f.node.val ∧ q.step ≠ 0 then { q with node := f.node.val + 1, step := 0 } else q) ∧
  ∀ (round step : Nat) (r : NodeRec) (st : NodeState),
    (r.role = .none ∨ st = .wrongRole → pollAt round r st step = none) ∧
    (r.role ≠ .none → st = .unseen → pollAt round r st step = if step = 0 then some (.ident, 0) else none) ∧
    (r.role ≠ .none → st = .offline → pollAt round r st step = if step = 0 ∧ round = 0 then some (.ident, 0) else none) ∧
    (st = .online ∨ st = .suspect →
      (r.role = .fan ∨ r.role = .valve → pollAt round r st step = if step < 2 then some (.read, step + 1) else none) ∧
      (r.role = .pump → pollAt round r st step = if step = 0 then some (.read, 1) else none) ∧
      (r.role = .sensor → pollAt round r st step = if step < r.channels then some (.read, step) else none))

/-- An accepted BUS_PASS takes the pass-through slot for 2 s with its reply deferred; a WRITE in RUN to an output point whose owner is
active is REFUSED why=OWNED. Its wait's end empties the slot and answers TIMEOUT; the end of a transaction of the slot empties it
and answers OK with the outcome: GOOD or REFUSED with the status and value of the reply, TIMEOUT, BADFRAME or LINE_ERROR with neither; for
an IDENT the reply adds the reported role by name, or as its number where R195 gives none (R157, R158). That an IDENT whose outcome is not
GOOD gives role=none is the model's choice (assumption 23), and so is that PASS_WAIT_TIMEOUT has no effect where no request waits
(assumption 2). -/
def Obligations.PassThroughRequests : Prop :=
  ∀ s : State,
    (∀ x ∈ [(Instr.busPassRead, "READ", TxKind.read), (.busPassWrite, "WRITE", .write), (.busPassIdent, "IDENT", .ident)],
      ∀ (rest : List Arg) (n : NodeId) (p : Nat) (v : Int), Ready s →
        let args := kv "kind" x.2.1 :: rest
        badArgOrdered (passKeys (some x.2.2)) args = none → argOf args "node" = some (nodeName n) →
        ((argOf args "point" = none ∧ p = 0) ∨ (argOf args "point").bind readInt = some (p : Int)) →
        ((argOf args "value" = none ∧ v = 0) ∨ (argOf args "value").bind readInt = some v) →
        let owned := s.mode = .run ∧ x.2.2 = .write ∧ p = 0 ∧ ((∃ c l, ((s.cfg.coils[c]).fanNode = some n ∨
            (s.cfg.coils[c]).valveNode = some n) ∧ s.ownerOf n = some (if (s.cfg.coils[c]).fanNode = some n then .coilFan c
              else .coilValve c) ∧ (s.cfg.coils[c]).loop = some l ∧ (s.coils[c]).service ≠ .out ∧ (s.loops[l]).state ≠ .idle) ∨
          ∃ l, (s.loops[l]).state ≠ .idle ∧
            (s.ownerOf n = some (.pump l .a) ∨ s.ownerOf n = some (.pump l .b) ∨ s.ownerOf n = some (.bypass l)))
        (owned → exec (x.1 rest) s = .next (s.answered "BUS_PASS" .refused [("why", .word "OWNED")])) ∧
        (¬ owned → exec (x.1 rest) s = .next { s with bus := { s.bus with
          pass := .waiting { kind := x.2.2, node := n, point := p, value := v } 2 } })) ∧
    (s.bus.lost = [] →
      (∀ r j, s.bus.pass = .waiting r j → exec .passWaitTimeout s = .next
        (({ s with bus := { s.bus with pass := .empty } } : State).answered "BUS_PASS" .timeout [])) ∧
      ((∀ r j, s.bus.pass ≠ .waiting r j) → exec .passWaitTimeout s = .next s) ∧
      ∀ f r, s.bus.flight = some f → f.src = .pass → s.bus.pass = .inFlight r →
        let ends := fun (i : Instr) (outcome : String) (status value role : Val) =>
          ∃ t, exec i s = .next t ∧ t.bus.pass = .empty ∧ t.bus.flight = none ∧
            s.replied t "BUS_PASS" .ok ([("outcome", .word outcome), ("status", status), ("value", value)] ++
              if f.kind = .ident then [("role", role)] else [])
        ends .replyWindowExpiry "TIMEOUT" .unknown .unknown .none ∧ ends .echoMismatch "LINE_ERROR" .unknown .unknown .none ∧
        ∀ (bytes : List Byte) (a k st hi lo c1 c2 : Byte), (s.bus.rx ++ bytes).take 7 = [a, k, st, hi, lo, c1, c2] →
          let sound := a = BitVec.ofNat 8 (f.node.val + 1) ∧ crc16 [a, k, st, hi, lo] = c1 ++ c2 ∧
            k = (match f.kind with
              | .read => 1#8
              | .write => 2#8
              | .ident => 3#8)
          let v := (hi ++ lo).toInt
          let role := if v = 1 then Val.word "FAN" else if v = 2 then .word "VALVE" else if v = 3 then .word "PUMP"
            else if v = 4 then .word "SENSOR" else .int v
          (sound → st = 0#8 → ends (.replyFrame bytes) "GOOD" (.word "ACCEPT") (.int v) role) ∧
          (sound → st = 2#8 → ends (.replyFrame bytes) "GOOD" (.word "DRIVE_FAULT") (.int v) role) ∧
          (sound → st = 1#8 → ends (.replyFrame bytes) "REFUSED" (.word "REFUSE") (.int v) .none) ∧
          (¬ sound ∨ (st ≠ 0#8 ∧ st ≠ 1#8 ∧ st ≠ 2#8) → ends (.replyFrame bytes) "BADFRAME" .unknown .unknown .none))

/-! ## Pulse channels, discrete inputs, the outdoor temperature (chapter 8) -/

/-- An edge is counted and timed by a channel that is not OFF. At the end of a gate a channel whose last active edge, or restart, lies
silence seconds back is SILENT with no value. Otherwise a COUNT gate with edges gives the count x 60 / scale rounded down, OVERRANGE above
10000 edges or 60000; a PERIOD gate the interval between its last two active edges, OVERRANGE outside 100 to 10000000; a WIDTH gate the
share at the active level in tenths of a percent. A change of status is traced with the old and new status and the value, and a change to
SILENT raises PULSE (R163 to R165). The gate of the outdoor_pulse channel makes the outdoor selection again, a change of its source being
traced; a channel that no loop names as flow_src traces nothing else (R165, R169). Gates begin and end with the uptime
seconds, so GATE_END has no effect before the uptime has passed the second at which the gate in progress began (R163). Of this the model's
choices are: a gate ends as its held seconds end, a VALID COUNT channel without edges has the value 0, and a WIDTH of more than 1000 is cut to
1000 (assumption 21); scale is held in tenths (assumption 11); GATE_END on an OFF channel, or before its time, has no effect (assumption 2);
and the keys of the PULSE entry (assumption 15). -/
def Obligations.PulseChannelsMeasureInGates : Prop :=
  ∀ (s : State) (p : ChanId), s.bus.lost = [] →
    let x := (s.inputs.chans)[p]
    let r := s.cfg.chans[p]
    let withChan := fun y : Chan => ({ s with inputs := { s.inputs with chans := s.inputs.chans.set p y } } : State)
    (∀ (d : Edge) (us : Nat),
      let moved := { x with pin := decide (d = .rise), levelSince := us }
      (r.mode = .off → exec (.pulseEdge p d us) s = .next (withChan moved)) ∧
      (r.mode ≠ .off → d = r.edge → exec (.pulseEdge p d us) s = .next (withChan { moved with
        count := x.count + 1, lastEdge := some us, interval := x.periodEdge.map (fun t0 => us - t0), periodEdge := some us,
        activeSince := some us })) ∧
      (r.mode ≠ .off → d ≠ r.edge → exec (.pulseEdge p d us) s = .next (withChan { moved with
        activeTime := (match x.activeSince with
          | some t0 => x.activeTime + (us - t0)
          | none => x.activeTime)
        activeSince := none }))) ∧
    (r.mode = .off ∨ s.uptime ≤ x.gateStart → exec (.gateEnd p) s = .next s) ∧
    (r.mode ≠ .off → x.gateStart < s.uptime → ∃ t, exec (.gateEnd p) s = .next t ∧ t.link = s.link ∧ t.plans = s.plans ∧
      (let y := (t.inputs.chans)[p]
       let changed := s.event (.chan p) .pulse [("old", .word x.status.name), ("new", .word y.status.name),
         ("value", match y.value with
           | some k => .int k
           | none => .unknown)]
       let ended := (x.gateStart + 1) * 1000000
       let last := match x.lastEdge with
         | some e => e
         | none => x.restartedAt * 1000000
       let silent := r.silence * 1000000 ≤ ended - last
       let high := match x.activeSince with
         | some t0 => x.activeTime + (ended - t0)
         | none => x.activeTime
       y.count = 0 ∧ y.lastCount = x.count ∧ y.gateStart = x.gateStart + 1 ∧ y.lastEdge = x.lastEdge ∧ y.pin = x.pin ∧
       ((∀ l : LoopId, (s.cfg.loops[l]).flowSrc ≠ some (.pulse p)) →
         t.trace = (s.sourceNoted (if y.status = x.status then s else changed) t.inputs.outdoor).trace) ∧
       t.inputs.outdoor = (if s.cfg.site.outdoorPulse = some p then t.selectOutdoor else s.inputs.outdoor) ∧
       (silent → y.status = .silent ∧ y.value = none ∧ (x.status ≠ .silent → Source.pulse ∈ t.notice.pending)) ∧
       (¬ silent → r.mode = .count →
         (0 < x.count → x.count ≤ 10000 → x.count * 600 / r.scale ≤ 60000 →
           y.status = .valid ∧ y.value = some (x.count * 600 / r.scale)) ∧
         (10000 < x.count ∨ (0 < x.count ∧ 60000 < x.count * 600 / r.scale) → y.status = .overrange ∧ y.value = none) ∧
         (x.count = 0 → y.status = x.status ∧ (x.status = .valid → y.value = some 0))) ∧
       (¬ silent → r.mode = .period →
         (∀ d, x.interval = some d → 100 ≤ d → d ≤ 10000000 → y.status = .valid ∧ y.value = some d) ∧
         (∀ d, x.interval = some d → d < 100 ∨ 10000000 < d → y.status = .overrange ∧ y.value = none) ∧
         (x.interval = none → y.status = x.status ∧ y.value = x.value)) ∧
       (¬ silent → r.mode = .width →
         (0 < x.count ∨ x.status ≠ .silent → y.status = .valid ∧ y.value = some (min 1000 (high / 1000))) ∧
         (x.count = 0 → x.status = .silent → y.status = .silent ∧ y.value = x.value))))

/-- A pin's change starts its debounce timer, and its return to the debounced level stops it; the expiry makes the new level the debounced
one, traces INPUT with the new state and the role where the role or the notice is not NONE, raises INPUT as the notice asks, recomputes the
plant conditions, and, where PLANT_STOP changes, the fan of every coil that is not DORMANT: 0 as it becomes active, the coil's own speed as
it becomes inactive. SVC's expiry is traced and raises INPUT. OUTDOOR_SET gives or removes the host value, whose expiry removes it, traced
with detail HOST_EXPIRED; either, a reading of outdoor_pt, and its fall from FRESH make the selection again, and a change of source is traced
with the old and new sources and the value, raising nothing; the outdoor temperature is the FRESH point, else the VALID channel, else the
host value, else UNKNOWN (R87, R166 to R170).
The model's choices are that an expiry has no effect with no timer running or no host value, or before its time (assumption 2), and that
OUTDOOR_SET value=none ignores for= (assumption 10); the keys of the INPUT entries are its choice too (assumption 15). -/
def Obligations.ContactsConditionsAndOutdoor : Prop :=
  ∀ s : State,
    let moved := fun (x : Contact) (high : Bool) (ms : Nat) => ({ x with
      pin := high, timer := if high = x.debounced then none else some ms } : Contact)
    let timed := fun x : Contact => ({ x with debounced := x.pin, timer := none } : Contact)
    (s.bus.lost = [] →
      (∀ (i : InputId) (high : Bool),
        let x := (s.inputs.contacts)[i]
        (high = x.pin → exec (.inputPinChange (.d i) high) s = .next s) ∧
        (high ≠ x.pin → exec (.inputPinChange (.d i) high) s = .next { s with inputs := { s.inputs with
          contacts := s.inputs.contacts.set i (moved x high (s.cfg.inputs[i]).debounce) } }) ∧
        (x.timer = none → exec (.debounceExpiry (.d i)) s = .next s) ∧
        (x.timer.isSome = true → ∃ t, exec (.debounceExpiry (.d i)) s = .next t ∧ t.link = s.link ∧ t.plans = s.plans ∧
          t.inputs.contacts = s.inputs.contacts.set i (timed x) ∧
          (let r := s.cfg.inputs[i]
           let active := x.pin = r.activeHigh
           let raises := r.notice = .both ∨ (r.notice = .rise ∧ active) ∨ (r.notice = .fall ∧ ¬ active)
           let traced := if r.role = .none ∧ r.notice = .none then s else s.event (.input i) .input
             [("state", .word (if active then "ACTIVE" else "INACTIVE")), ("role", .word r.role.name)]
           let noted := if raises then traced.raise .input else traced
           (AllReachable s → s.inputs.snowWarn = true ∨ t.inputs.snowWarn = false → t.notedAs noted) ∧
           (raises → Source.input ∈ t.notice.pending) ∧
           ∀ h, s.trace.writer = .writing h → (noted.trace.half h).entries <+: (t.trace.half h).entries) ∧
          (t.inputs.plantStop = true ↔ ∃ j : InputId, (s.cfg.inputs[j]).role = .plantStop ∧
            ((t.inputs.contacts)[j]).debounced = (s.cfg.inputs[j]).activeHigh) ∧
          (t.inputs.snowWarn = true ↔ ∃ j : InputId, (s.cfg.inputs[j]).role = .snowWarn ∧
            ((t.inputs.contacts)[j]).debounced = (s.cfg.inputs[j]).activeHigh) ∧
          (AllReachable s → s.inputs.plantStop = false → t.inputs.plantStop = true →
            ∀ c : CoilId, (s.coils[c]).service ≠ .dormant → (t.coils[c]).desiredFan = 0) ∧
          (AllReachable s → s.inputs.plantStop = true → t.inputs.plantStop = false →
            ∀ c : CoilId, (s.coils[c]).service ≠ .dormant → (t.coils[c]).desiredFan = t.fanDemand c))) ∧
      (exec (.inputPinChange .svc s.inputs.svc.pin) s = .next s) ∧
      (s.inputs.svc.timer = none → exec (.debounceExpiry .svc) s = .next s) ∧
      (s.inputs.host = none → exec .hostOutdoorExpiry s = .next s) ∧
      (∀ high, high ≠ s.inputs.svc.pin → exec (.inputPinChange .svc high) s = .next { s with inputs := { s.inputs with
        svc := moved s.inputs.svc high 200 } }) ∧
      (s.inputs.svc.timer.isSome = true → exec (.debounceExpiry .svc) s = .next
        ((({ s with inputs := { s.inputs with svc := timed s.inputs.svc } } : State).event .svc .input
          [("state", .word (if s.inputs.svc.pin = false then "ACTIVE" else "INACTIVE"))]).raise .input)) ∧
      (∀ h, s.inputs.host = some h → s.uptime < h.expiry → exec .hostOutdoorExpiry s = .next s) ∧
      (∀ h, s.inputs.host = some h → h.expiry ≤ s.uptime → ∃ t, exec .hostOutdoorExpiry s = .next t ∧ t.link = s.link ∧
        t.coils = s.coils ∧ t.bus = s.bus ∧ t.inputs = { s.inputs with host := none, outdoor := t.selectOutdoor } ∧
        t.notedAs (s.sourceNoted (s.event .outdoor .input [("detail", .word "HOST_EXPIRED")]) t.inputs.outdoor))) ∧
    (∀ (n : NodeId) (p : Nat) (i : Instr), Calm s → s.cfg.site.outdoorPt = some ⟨n, p⟩ → soleUse s.cfg n p →
      (∃ v, s.readBy i n p v) ∨ s.agesBy i n p →
      ∃ t, exec i s = .next t ∧ t.coils = s.coils ∧ t.inputs = { s.inputs with outdoor := t.selectOutdoor } ∧
        (∀ v, s.readBy i n p v → t.inputs.outdoor = .point v) ∧ t.notedAs (s.sourceNoted s t.inputs.outdoor)) ∧
    (∀ (args : List Arg) (host : Option HostOutdoor), Ready s →
      badArg (outdoorKeys (decide (argOf args "value" = some "none"))) args = none →
      ((argOf args "value" = some "none" ∧ host = none) ∨
        ∃ v n : Int, (argOf args "value").bind readTemp = some v ∧ (argOf args "for").bind readInt = some n ∧
          host = some { value := v, expiry := s.uptime + n.toNat }) →
      ∃ t, exec (.outdoorSet args) s = .next t ∧ s.replied t "OUTDOOR_SET" .ok [] ∧ t.coils = s.coils ∧ t.bus = s.bus ∧
        t.inputs = { s.inputs with host := host, outdoor := t.selectOutdoor } ∧ t.notedAs (s.sourceNoted s t.inputs.outdoor)) ∧
    (∀ v, s.freshAt s.cfg.site.outdoorPt = some v → s.selectOutdoor = .point v) ∧
    (s.freshAt s.cfg.site.outdoorPt = none →
      (∀ p v, s.cfg.site.outdoorPulse = some p → ((s.inputs.chans)[p]).status = .valid → ((s.inputs.chans)[p]).value = some v →
        s.selectOutdoor = .pulse ((v : Int) - 600)) ∧
      ((∀ p, s.cfg.site.outdoorPulse = some p → ((s.inputs.chans)[p]).status ≠ .valid) →
        (∀ h, s.inputs.host = some h → s.selectOutdoor = .host h.value) ∧
        (s.inputs.host = none → s.selectOutdoor = .unknown)))

/-! ## The trace ring (chapter 9) -/

/-- TRACE_RELEASE makes a FULL half FREE with its serial kept, and ends a lockout there with a GAP entry at index 0; a half that is not FULL
is REFUSED why=NOT_FULL. TRACE_CUT closes the FILLING half and raises TRACE; the writer moves into the other half where it is FREE, else it
is LOCKED, and a cut is then REFUSED why=STATE. An offered entry is written while WRITING, completing the half at 256, and counted while
LOCKED (R175 to R177, R179). The keys h0, h1 and writer of the replies (assumption 41), and the key state of the BUS entry that is offered
(assumption 15), are the model's choice. -/
def Obligations.TraceHalvesAreHandedOver : Prop :=
  ∀ (s : State) (h : HalfId),
    let tr := s.trace
    let half := tr.half h
    let other := tr.half h.other
    let next := if tr.next = 65535 then 1 else tr.next + 1
    let report := fun t : Trace => [("h0", Val.word t.h0.state.name), ("h1", .word t.h1.state.name),
      ("writer", .word (match t.writer with
        | .writing _ => "WRITING"
        | .locked _ => "LOCKED"))]
    (Ready s →
      let release := exec (.traceRelease [kv "half" h.name]) s
      (half.state ≠ .full → release = .next (s.answered "TRACE_RELEASE" .refused [("why", .word "NOT_FULL")])) ∧
      (∀ k, half.state = .full → tr.writer = .writing k → ∃ t, release = .next t ∧ s.replied t "TRACE_RELEASE" .ok (report t.trace) ∧
        t.trace.half h = { state := .free, entries := [], serial := half.serial } ∧ t.trace.half h.other = other ∧
        t.trace.writer = tr.writer ∧ t.trace.next = tr.next ∧ t.trace.missed = tr.missed) ∧
      (∀ k, half.state = .full → tr.writer = .locked k → ∃ t, release = .next t ∧ s.replied t "TRACE_RELEASE" .ok (report t.trace) ∧
        t.trace.half h = { state := .filling, entries := [{ t := s.uptime, subj := .trace, body := .gap tr.missed k }],
                           serial := tr.next } ∧
        t.trace.half h.other = other ∧ t.trace.writer = .writing h ∧ t.trace.next = next ∧ t.trace.missed = 0) ∧
      (∀ k, tr.writer = .locked k → exec (.traceCut []) s = .next (s.answered "TRACE_CUT" .refused [("why", .word "STATE")])) ∧
      (tr.writer = .writing h → ∃ t, exec (.traceCut []) s = .next t ∧ Source.trace ∈ t.notice.pending ∧
        s.replied t "TRACE_CUT" .ok ([("cut", .word h.name), ("fill", .int half.entries.length)] ++ report t.trace) ∧
        t.trace.half h = { half with state := .full } ∧
        (other.state = .free → t.trace.half h.other = { state := .filling, entries := [], serial := tr.next } ∧
          t.trace.writer = .writing h.other ∧ t.trace.next = next ∧ t.trace.missed = tr.missed) ∧
        (other.state ≠ .free → t.trace.half h.other = other ∧ t.trace.writer = .locked s.uptime ∧ t.trace.next = tr.next ∧
          t.trace.missed = 0))) ∧
    (s.bus.lost = [] → ∀ j, s.bus.line = .down j → ∃ t, exec .busDownExpiry s = .next t ∧
      (let e : TraceEntry := { t := s.uptime, subj := .bus, body := .event .bus [("state", .word "UP")] }
       (∀ k, tr.writer = .locked k → t.trace = { tr with missed := min 65535 (tr.missed + 1) }) ∧
       (tr.writer = .writing h → half.entries.length < 255 →
         t.trace.half h = { half with entries := half.entries ++ [e] } ∧ t.trace.half h.other = other ∧ t.trace.writer = .writing h) ∧
       (tr.writer = .writing h → half.entries.length = 255 →
         t.trace.half h = { half with state := .full, entries := half.entries ++ [e] } ∧ Source.trace ∈ t.notice.pending ∧
         (other.state = .free → t.trace.half h.other = { state := .filling, entries := [], serial := tr.next } ∧
           t.trace.writer = .writing h.other) ∧
         (other.state ≠ .free → t.trace.writer = .locked s.uptime ∧ t.trace.missed = 0))))
end

