-- ==== Sys2Proof/Laws/State.lean ====
section
/-! SUPPORT. One lemma per field per update: what each update of one part of the state does to each field of State, and the parts of the
state that the shared operations over trace, notices and command requests leave alone. -/

namespace Sys2Proof.Machine

/-! ## modLoop -/

@[simp] theorem modLoop_mode (s : State) (l : LoopId) (f : LoopSt → LoopSt) :
    (s.modLoop l f).mode = s.mode := rfl
@[simp] theorem modLoop_uptime (s : State) (l : LoopId) (f : LoopSt → LoopSt) :
    (s.modLoop l f).uptime = s.uptime := rfl
@[simp] theorem modLoop_cfg (s : State) (l : LoopId) (f : LoopSt → LoopSt) :
    (s.modLoop l f).cfg = s.cfg := rfl
@[simp] theorem modLoop_identity (s : State) (l : LoopId) (f : LoopSt → LoopSt) :
    (s.modLoop l f).identity = s.identity := rfl
@[simp] theorem modLoop_store (s : State) (l : LoopId) (f : LoopSt → LoopSt) :
    (s.modLoop l f).store = s.store := rfl
@[simp] theorem modLoop_plans (s : State) (l : LoopId) (f : LoopSt → LoopSt) :
    (s.modLoop l f).plans = s.plans := rfl
@[simp] theorem modLoop_loops (s : State) (l : LoopId) (f : LoopSt → LoopSt) :
    (s.modLoop l f).loops = s.loops.set l (f s.loops[l]) := rfl
@[simp] theorem modLoop_units (s : State) (l : LoopId) (f : LoopSt → LoopSt) :
    (s.modLoop l f).units = s.units := rfl
@[simp] theorem modLoop_coils (s : State) (l : LoopId) (f : LoopSt → LoopSt) :
    (s.modLoop l f).coils = s.coils := rfl
@[simp] theorem modLoop_overrides (s : State) (l : LoopId) (f : LoopSt → LoopSt) :
    (s.modLoop l f).overrides = s.overrides := rfl
@[simp] theorem modLoop_frost (s : State) (l : LoopId) (f : LoopSt → LoopSt) :
    (s.modLoop l f).frost = s.frost := rfl
@[simp] theorem modLoop_summaries (s : State) (l : LoopId) (f : LoopSt → LoopSt) :
    (s.modLoop l f).summaries = s.summaries := rfl
@[simp] theorem modLoop_bus (s : State) (l : LoopId) (f : LoopSt → LoopSt) :
    (s.modLoop l f).bus = s.bus := rfl
@[simp] theorem modLoop_nodes (s : State) (l : LoopId) (f : LoopSt → LoopSt) :
    (s.modLoop l f).nodes = s.nodes := rfl
@[simp] theorem modLoop_inputs (s : State) (l : LoopId) (f : LoopSt → LoopSt) :
    (s.modLoop l f).inputs = s.inputs := rfl
@[simp] theorem modLoop_trace (s : State) (l : LoopId) (f : LoopSt → LoopSt) :
    (s.modLoop l f).trace = s.trace := rfl
@[simp] theorem modLoop_notice (s : State) (l : LoopId) (f : LoopSt → LoopSt) :
    (s.modLoop l f).notice = s.notice := rfl
@[simp] theorem modLoop_link (s : State) (l : LoopId) (f : LoopSt → LoopSt) :
    (s.modLoop l f).link = s.link := rfl
@[simp] theorem modLoop_pending (s : State) (l : LoopId) (f : LoopSt → LoopSt) :
    (s.modLoop l f).pending = s.pending := rfl

/-! ## Plan.pause -/

@[simp] theorem Plan.pause_slots (p : Plan) : p.pause.slots = p.slots := rfl
@[simp] theorem Plan.pause_state (p : Plan) : p.pause.state = .paused := rfl
@[simp] theorem Plan.pause_cur (p : Plan) : p.pause.cur = p.cur := rfl
@[simp] theorem Plan.pause_last (p : Plan) : p.pause.last = p.last := rfl
@[simp] theorem Plan.pause_prep (p : Plan) : p.pause.prep = p.prep := rfl
@[simp] theorem Plan.pause_verdict (p : Plan) : p.pause.verdict = p.verdict := rfl
@[simp] theorem Plan.pause_rampStart (p : Plan) : p.pause.rampStart = p.rampStart := rfl

theorem Plan.endsAt_pos {p : Plan} {n : Nat} (h : p.endsAt = some n) : 0 < n := by
  unfold Plan.endsAt at h
  repeat' split at h
  all_goals simp at h
  omega

/-- A pause stands below the end of its segment (R33). -/
theorem Plan.pause_elapsed_lt (p : Plan) {n : Nat} (h : p.endsAt = some n) : p.pause.elapsed < n := by
  have k := Plan.endsAt_pos h
  simp only [Plan.pause, h]
  omega
/-- A pause of a segment that has not reached its end, or has none, keeps elapsed (R38). -/
theorem Plan.pause_elapsed_eq (p : Plan) (h : ∀ n, p.endsAt = some n → p.elapsed < n) : p.pause.elapsed = p.elapsed := by
  unfold Plan.pause
  split
  · rename_i n e
    have k := h n e
    simp only
    omega
  · rfl

/-! ## modPlan -/

@[simp] theorem modPlan_mode (s : State) (l : LoopId) (f : Plan → Plan) :
    (s.modPlan l f).mode = s.mode := rfl
@[simp] theorem modPlan_uptime (s : State) (l : LoopId) (f : Plan → Plan) :
    (s.modPlan l f).uptime = s.uptime := rfl
@[simp] theorem modPlan_cfg (s : State) (l : LoopId) (f : Plan → Plan) :
    (s.modPlan l f).cfg = s.cfg := rfl
@[simp] theorem modPlan_identity (s : State) (l : LoopId) (f : Plan → Plan) :
    (s.modPlan l f).identity = s.identity := rfl
@[simp] theorem modPlan_store (s : State) (l : LoopId) (f : Plan → Plan) :
    (s.modPlan l f).store = s.store := rfl
@[simp] theorem modPlan_plans (s : State) (l : LoopId) (f : Plan → Plan) :
    (s.modPlan l f).plans = s.plans.set l (f s.plans[l]) := rfl
@[simp] theorem modPlan_loops (s : State) (l : LoopId) (f : Plan → Plan) :
    (s.modPlan l f).loops = s.loops := rfl
@[simp] theorem modPlan_units (s : State) (l : LoopId) (f : Plan → Plan) :
    (s.modPlan l f).units = s.units := rfl
@[simp] theorem modPlan_coils (s : State) (l : LoopId) (f : Plan → Plan) :
    (s.modPlan l f).coils = s.coils := rfl
@[simp] theorem modPlan_overrides (s : State) (l : LoopId) (f : Plan → Plan) :
    (s.modPlan l f).overrides = s.overrides := rfl
@[simp] theorem modPlan_frost (s : State) (l : LoopId) (f : Plan → Plan) :
    (s.modPlan l f).frost = s.frost := rfl
@[simp] theorem modPlan_summaries (s : State) (l : LoopId) (f : Plan → Plan) :
    (s.modPlan l f).summaries = s.summaries := rfl
@[simp] theorem modPlan_bus (s : State) (l : LoopId) (f : Plan → Plan) :
    (s.modPlan l f).bus = s.bus := rfl
@[simp] theorem modPlan_nodes (s : State) (l : LoopId) (f : Plan → Plan) :
    (s.modPlan l f).nodes = s.nodes := rfl
@[simp] theorem modPlan_inputs (s : State) (l : LoopId) (f : Plan → Plan) :
    (s.modPlan l f).inputs = s.inputs := rfl
@[simp] theorem modPlan_trace (s : State) (l : LoopId) (f : Plan → Plan) :
    (s.modPlan l f).trace = s.trace := rfl
@[simp] theorem modPlan_notice (s : State) (l : LoopId) (f : Plan → Plan) :
    (s.modPlan l f).notice = s.notice := rfl
@[simp] theorem modPlan_link (s : State) (l : LoopId) (f : Plan → Plan) :
    (s.modPlan l f).link = s.link := rfl
@[simp] theorem modPlan_pending (s : State) (l : LoopId) (f : Plan → Plan) :
    (s.modPlan l f).pending = s.pending := rfl

/-! ## modUnit -/

@[simp] theorem modUnit_mode (s : State) (l : LoopId) (f : LoopCoils → LoopCoils) :
    (s.modUnit l f).mode = s.mode := rfl
@[simp] theorem modUnit_uptime (s : State) (l : LoopId) (f : LoopCoils → LoopCoils) :
    (s.modUnit l f).uptime = s.uptime := rfl
@[simp] theorem modUnit_cfg (s : State) (l : LoopId) (f : LoopCoils → LoopCoils) :
    (s.modUnit l f).cfg = s.cfg := rfl
@[simp] theorem modUnit_identity (s : State) (l : LoopId) (f : LoopCoils → LoopCoils) :
    (s.modUnit l f).identity = s.identity := rfl
@[simp] theorem modUnit_store (s : State) (l : LoopId) (f : LoopCoils → LoopCoils) :
    (s.modUnit l f).store = s.store := rfl
@[simp] theorem modUnit_plans (s : State) (l : LoopId) (f : LoopCoils → LoopCoils) :
    (s.modUnit l f).plans = s.plans := rfl
@[simp] theorem modUnit_loops (s : State) (l : LoopId) (f : LoopCoils → LoopCoils) :
    (s.modUnit l f).loops = s.loops := rfl
@[simp] theorem modUnit_units (s : State) (l : LoopId) (f : LoopCoils → LoopCoils) :
    (s.modUnit l f).units = s.units.set l (f s.units[l]) := rfl
@[simp] theorem modUnit_coils (s : State) (l : LoopId) (f : LoopCoils → LoopCoils) :
    (s.modUnit l f).coils = s.coils := rfl
@[simp] theorem modUnit_overrides (s : State) (l : LoopId) (f : LoopCoils → LoopCoils) :
    (s.modUnit l f).overrides = s.overrides := rfl
@[simp] theorem modUnit_frost (s : State) (l : LoopId) (f : LoopCoils → LoopCoils) :
    (s.modUnit l f).frost = s.frost := rfl
@[simp] theorem modUnit_summaries (s : State) (l : LoopId) (f : LoopCoils → LoopCoils) :
    (s.modUnit l f).summaries = s.summaries := rfl
@[simp] theorem modUnit_bus (s : State) (l : LoopId) (f : LoopCoils → LoopCoils) :
    (s.modUnit l f).bus = s.bus := rfl
@[simp] theorem modUnit_nodes (s : State) (l : LoopId) (f : LoopCoils → LoopCoils) :
    (s.modUnit l f).nodes = s.nodes := rfl
@[simp] theorem modUnit_inputs (s : State) (l : LoopId) (f : LoopCoils → LoopCoils) :
    (s.modUnit l f).inputs = s.inputs := rfl
@[simp] theorem modUnit_trace (s : State) (l : LoopId) (f : LoopCoils → LoopCoils) :
    (s.modUnit l f).trace = s.trace := rfl
@[simp] theorem modUnit_notice (s : State) (l : LoopId) (f : LoopCoils → LoopCoils) :
    (s.modUnit l f).notice = s.notice := rfl
@[simp] theorem modUnit_link (s : State) (l : LoopId) (f : LoopCoils → LoopCoils) :
    (s.modUnit l f).link = s.link := rfl
@[simp] theorem modUnit_pending (s : State) (l : LoopId) (f : LoopCoils → LoopCoils) :
    (s.modUnit l f).pending = s.pending := rfl

/-! ## modCoil -/

@[simp] theorem modCoil_mode (s : State) (c : CoilId) (f : CoilSt → CoilSt) :
    (s.modCoil c f).mode = s.mode := rfl
@[simp] theorem modCoil_uptime (s : State) (c : CoilId) (f : CoilSt → CoilSt) :
    (s.modCoil c f).uptime = s.uptime := rfl
@[simp] theorem modCoil_cfg (s : State) (c : CoilId) (f : CoilSt → CoilSt) :
    (s.modCoil c f).cfg = s.cfg := rfl
@[simp] theorem modCoil_identity (s : State) (c : CoilId) (f : CoilSt → CoilSt) :
    (s.modCoil c f).identity = s.identity := rfl
@[simp] theorem modCoil_store (s : State) (c : CoilId) (f : CoilSt → CoilSt) :
    (s.modCoil c f).store = s.store := rfl
@[simp] theorem modCoil_plans (s : State) (c : CoilId) (f : CoilSt → CoilSt) :
    (s.modCoil c f).plans = s.plans := rfl
@[simp] theorem modCoil_loops (s : State) (c : CoilId) (f : CoilSt → CoilSt) :
    (s.modCoil c f).loops = s.loops := rfl
@[simp] theorem modCoil_units (s : State) (c : CoilId) (f : CoilSt → CoilSt) :
    (s.modCoil c f).units = s.units := rfl
@[simp] theorem modCoil_coils (s : State) (c : CoilId) (f : CoilSt → CoilSt) :
    (s.modCoil c f).coils = s.coils.set c (f s.coils[c]) := rfl
@[simp] theorem modCoil_overrides (s : State) (c : CoilId) (f : CoilSt → CoilSt) :
    (s.modCoil c f).overrides = s.overrides := rfl
@[simp] theorem modCoil_frost (s : State) (c : CoilId) (f : CoilSt → CoilSt) :
    (s.modCoil c f).frost = s.frost := rfl
@[simp] theorem modCoil_summaries (s : State) (c : CoilId) (f : CoilSt → CoilSt) :
    (s.modCoil c f).summaries = s.summaries := rfl
@[simp] theorem modCoil_bus (s : State) (c : CoilId) (f : CoilSt → CoilSt) :
    (s.modCoil c f).bus = s.bus := rfl
@[simp] theorem modCoil_nodes (s : State) (c : CoilId) (f : CoilSt → CoilSt) :
    (s.modCoil c f).nodes = s.nodes := rfl
@[simp] theorem modCoil_inputs (s : State) (c : CoilId) (f : CoilSt → CoilSt) :
    (s.modCoil c f).inputs = s.inputs := rfl
@[simp] theorem modCoil_trace (s : State) (c : CoilId) (f : CoilSt → CoilSt) :
    (s.modCoil c f).trace = s.trace := rfl
@[simp] theorem modCoil_notice (s : State) (c : CoilId) (f : CoilSt → CoilSt) :
    (s.modCoil c f).notice = s.notice := rfl
@[simp] theorem modCoil_link (s : State) (c : CoilId) (f : CoilSt → CoilSt) :
    (s.modCoil c f).link = s.link := rfl
@[simp] theorem modCoil_pending (s : State) (c : CoilId) (f : CoilSt → CoilSt) :
    (s.modCoil c f).pending = s.pending := rfl

/-! ## modFrost -/

@[simp] theorem modFrost_mode (s : State) (c : CoilId) (f : FrostRec → FrostRec) :
    (s.modFrost c f).mode = s.mode := rfl
@[simp] theorem modFrost_uptime (s : State) (c : CoilId) (f : FrostRec → FrostRec) :
    (s.modFrost c f).uptime = s.uptime := rfl
@[simp] theorem modFrost_cfg (s : State) (c : CoilId) (f : FrostRec → FrostRec) :
    (s.modFrost c f).cfg = s.cfg := rfl
@[simp] theorem modFrost_identity (s : State) (c : CoilId) (f : FrostRec → FrostRec) :
    (s.modFrost c f).identity = s.identity := rfl
@[simp] theorem modFrost_store (s : State) (c : CoilId) (f : FrostRec → FrostRec) :
    (s.modFrost c f).store = s.store := rfl
@[simp] theorem modFrost_plans (s : State) (c : CoilId) (f : FrostRec → FrostRec) :
    (s.modFrost c f).plans = s.plans := rfl
@[simp] theorem modFrost_loops (s : State) (c : CoilId) (f : FrostRec → FrostRec) :
    (s.modFrost c f).loops = s.loops := rfl
@[simp] theorem modFrost_units (s : State) (c : CoilId) (f : FrostRec → FrostRec) :
    (s.modFrost c f).units = s.units := rfl
@[simp] theorem modFrost_coils (s : State) (c : CoilId) (f : FrostRec → FrostRec) :
    (s.modFrost c f).coils = s.coils := rfl
@[simp] theorem modFrost_overrides (s : State) (c : CoilId) (f : FrostRec → FrostRec) :
    (s.modFrost c f).overrides = s.overrides := rfl
@[simp] theorem modFrost_frost (s : State) (c : CoilId) (f : FrostRec → FrostRec) :
    (s.modFrost c f).frost = s.frost.set c (f s.frost[c]) := rfl
@[simp] theorem modFrost_summaries (s : State) (c : CoilId) (f : FrostRec → FrostRec) :
    (s.modFrost c f).summaries = s.summaries := rfl
@[simp] theorem modFrost_bus (s : State) (c : CoilId) (f : FrostRec → FrostRec) :
    (s.modFrost c f).bus = s.bus := rfl
@[simp] theorem modFrost_nodes (s : State) (c : CoilId) (f : FrostRec → FrostRec) :
    (s.modFrost c f).nodes = s.nodes := rfl
@[simp] theorem modFrost_inputs (s : State) (c : CoilId) (f : FrostRec → FrostRec) :
    (s.modFrost c f).inputs = s.inputs := rfl
@[simp] theorem modFrost_trace (s : State) (c : CoilId) (f : FrostRec → FrostRec) :
    (s.modFrost c f).trace = s.trace := rfl
@[simp] theorem modFrost_notice (s : State) (c : CoilId) (f : FrostRec → FrostRec) :
    (s.modFrost c f).notice = s.notice := rfl
@[simp] theorem modFrost_link (s : State) (c : CoilId) (f : FrostRec → FrostRec) :
    (s.modFrost c f).link = s.link := rfl
@[simp] theorem modFrost_pending (s : State) (c : CoilId) (f : FrostRec → FrostRec) :
    (s.modFrost c f).pending = s.pending := rfl

/-! ## setOverride -/

@[simp] theorem setOverride_mode (s : State) (c : CoilId) (o : Option Override) :
    (s.setOverride c o).mode = s.mode := rfl
@[simp] theorem setOverride_uptime (s : State) (c : CoilId) (o : Option Override) :
    (s.setOverride c o).uptime = s.uptime := rfl
@[simp] theorem setOverride_cfg (s : State) (c : CoilId) (o : Option Override) :
    (s.setOverride c o).cfg = s.cfg := rfl
@[simp] theorem setOverride_identity (s : State) (c : CoilId) (o : Option Override) :
    (s.setOverride c o).identity = s.identity := rfl
@[simp] theorem setOverride_store (s : State) (c : CoilId) (o : Option Override) :
    (s.setOverride c o).store = s.store := rfl
@[simp] theorem setOverride_plans (s : State) (c : CoilId) (o : Option Override) :
    (s.setOverride c o).plans = s.plans := rfl
@[simp] theorem setOverride_loops (s : State) (c : CoilId) (o : Option Override) :
    (s.setOverride c o).loops = s.loops := rfl
@[simp] theorem setOverride_units (s : State) (c : CoilId) (o : Option Override) :
    (s.setOverride c o).units = s.units := rfl
@[simp] theorem setOverride_coils (s : State) (c : CoilId) (o : Option Override) :
    (s.setOverride c o).coils = s.coils := rfl
@[simp] theorem setOverride_overrides (s : State) (c : CoilId) (o : Option Override) :
    (s.setOverride c o).overrides = s.overrides.set c o := rfl
@[simp] theorem setOverride_frost (s : State) (c : CoilId) (o : Option Override) :
    (s.setOverride c o).frost = s.frost := rfl
@[simp] theorem setOverride_summaries (s : State) (c : CoilId) (o : Option Override) :
    (s.setOverride c o).summaries = s.summaries := rfl
@[simp] theorem setOverride_bus (s : State) (c : CoilId) (o : Option Override) :
    (s.setOverride c o).bus = s.bus := rfl
@[simp] theorem setOverride_nodes (s : State) (c : CoilId) (o : Option Override) :
    (s.setOverride c o).nodes = s.nodes := rfl
@[simp] theorem setOverride_inputs (s : State) (c : CoilId) (o : Option Override) :
    (s.setOverride c o).inputs = s.inputs := rfl
@[simp] theorem setOverride_trace (s : State) (c : CoilId) (o : Option Override) :
    (s.setOverride c o).trace = s.trace := rfl
@[simp] theorem setOverride_notice (s : State) (c : CoilId) (o : Option Override) :
    (s.setOverride c o).notice = s.notice := rfl
@[simp] theorem setOverride_link (s : State) (c : CoilId) (o : Option Override) :
    (s.setOverride c o).link = s.link := rfl
@[simp] theorem setOverride_pending (s : State) (c : CoilId) (o : Option Override) :
    (s.setOverride c o).pending = s.pending := rfl

/-! ## setSummary -/

@[simp] theorem setSummary_mode (s : State) (l : LoopId) (x : Summary) :
    (s.setSummary l x).mode = s.mode := rfl
@[simp] theorem setSummary_uptime (s : State) (l : LoopId) (x : Summary) :
    (s.setSummary l x).uptime = s.uptime := rfl
@[simp] theorem setSummary_cfg (s : State) (l : LoopId) (x : Summary) :
    (s.setSummary l x).cfg = s.cfg := rfl
@[simp] theorem setSummary_identity (s : State) (l : LoopId) (x : Summary) :
    (s.setSummary l x).identity = s.identity := rfl
@[simp] theorem setSummary_store (s : State) (l : LoopId) (x : Summary) :
    (s.setSummary l x).store = s.store := rfl
@[simp] theorem setSummary_plans (s : State) (l : LoopId) (x : Summary) :
    (s.setSummary l x).plans = s.plans := rfl
@[simp] theorem setSummary_loops (s : State) (l : LoopId) (x : Summary) :
    (s.setSummary l x).loops = s.loops := rfl
@[simp] theorem setSummary_units (s : State) (l : LoopId) (x : Summary) :
    (s.setSummary l x).units = s.units := rfl
@[simp] theorem setSummary_coils (s : State) (l : LoopId) (x : Summary) :
    (s.setSummary l x).coils = s.coils := rfl
@[simp] theorem setSummary_overrides (s : State) (l : LoopId) (x : Summary) :
    (s.setSummary l x).overrides = s.overrides := rfl
@[simp] theorem setSummary_frost (s : State) (l : LoopId) (x : Summary) :
    (s.setSummary l x).frost = s.frost := rfl
@[simp] theorem setSummary_summaries (s : State) (l : LoopId) (x : Summary) :
    (s.setSummary l x).summaries = s.summaries.set l x := rfl
@[simp] theorem setSummary_bus (s : State) (l : LoopId) (x : Summary) :
    (s.setSummary l x).bus = s.bus := rfl
@[simp] theorem setSummary_nodes (s : State) (l : LoopId) (x : Summary) :
    (s.setSummary l x).nodes = s.nodes := rfl
@[simp] theorem setSummary_inputs (s : State) (l : LoopId) (x : Summary) :
    (s.setSummary l x).inputs = s.inputs := rfl
@[simp] theorem setSummary_trace (s : State) (l : LoopId) (x : Summary) :
    (s.setSummary l x).trace = s.trace := rfl
@[simp] theorem setSummary_notice (s : State) (l : LoopId) (x : Summary) :
    (s.setSummary l x).notice = s.notice := rfl
@[simp] theorem setSummary_link (s : State) (l : LoopId) (x : Summary) :
    (s.setSummary l x).link = s.link := rfl
@[simp] theorem setSummary_pending (s : State) (l : LoopId) (x : Summary) :
    (s.setSummary l x).pending = s.pending := rfl

/-! ## modNode -/

@[simp] theorem modNode_mode (s : State) (n : NodeId) (f : NodeEntry → NodeEntry) :
    (s.modNode n f).mode = s.mode := rfl
@[simp] theorem modNode_uptime (s : State) (n : NodeId) (f : NodeEntry → NodeEntry) :
    (s.modNode n f).uptime = s.uptime := rfl
@[simp] theorem modNode_cfg (s : State) (n : NodeId) (f : NodeEntry → NodeEntry) :
    (s.modNode n f).cfg = s.cfg := rfl
@[simp] theorem modNode_identity (s : State) (n : NodeId) (f : NodeEntry → NodeEntry) :
    (s.modNode n f).identity = s.identity := rfl
@[simp] theorem modNode_store (s : State) (n : NodeId) (f : NodeEntry → NodeEntry) :
    (s.modNode n f).store = s.store := rfl
@[simp] theorem modNode_plans (s : State) (n : NodeId) (f : NodeEntry → NodeEntry) :
    (s.modNode n f).plans = s.plans := rfl
@[simp] theorem modNode_loops (s : State) (n : NodeId) (f : NodeEntry → NodeEntry) :
    (s.modNode n f).loops = s.loops := rfl
@[simp] theorem modNode_units (s : State) (n : NodeId) (f : NodeEntry → NodeEntry) :
    (s.modNode n f).units = s.units := rfl
@[simp] theorem modNode_coils (s : State) (n : NodeId) (f : NodeEntry → NodeEntry) :
    (s.modNode n f).coils = s.coils := rfl
@[simp] theorem modNode_overrides (s : State) (n : NodeId) (f : NodeEntry → NodeEntry) :
    (s.modNode n f).overrides = s.overrides := rfl
@[simp] theorem modNode_frost (s : State) (n : NodeId) (f : NodeEntry → NodeEntry) :
    (s.modNode n f).frost = s.frost := rfl
@[simp] theorem modNode_summaries (s : State) (n : NodeId) (f : NodeEntry → NodeEntry) :
    (s.modNode n f).summaries = s.summaries := rfl
@[simp] theorem modNode_bus (s : State) (n : NodeId) (f : NodeEntry → NodeEntry) :
    (s.modNode n f).bus = s.bus := rfl
@[simp] theorem modNode_nodes (s : State) (n : NodeId) (f : NodeEntry → NodeEntry) :
    (s.modNode n f).nodes = s.nodes.set n (f s.nodes[n]) := rfl
@[simp] theorem modNode_inputs (s : State) (n : NodeId) (f : NodeEntry → NodeEntry) :
    (s.modNode n f).inputs = s.inputs := rfl
@[simp] theorem modNode_trace (s : State) (n : NodeId) (f : NodeEntry → NodeEntry) :
    (s.modNode n f).trace = s.trace := rfl
@[simp] theorem modNode_notice (s : State) (n : NodeId) (f : NodeEntry → NodeEntry) :
    (s.modNode n f).notice = s.notice := rfl
@[simp] theorem modNode_link (s : State) (n : NodeId) (f : NodeEntry → NodeEntry) :
    (s.modNode n f).link = s.link := rfl
@[simp] theorem modNode_pending (s : State) (n : NodeId) (f : NodeEntry → NodeEntry) :
    (s.modNode n f).pending = s.pending := rfl

/-! ## modBus -/

@[simp] theorem modBus_mode (s : State) (f : Bus → Bus) :
    (s.modBus f).mode = s.mode := rfl
@[simp] theorem modBus_uptime (s : State) (f : Bus → Bus) :
    (s.modBus f).uptime = s.uptime := rfl
@[simp] theorem modBus_cfg (s : State) (f : Bus → Bus) :
    (s.modBus f).cfg = s.cfg := rfl
@[simp] theorem modBus_identity (s : State) (f : Bus → Bus) :
    (s.modBus f).identity = s.identity := rfl
@[simp] theorem modBus_store (s : State) (f : Bus → Bus) :
    (s.modBus f).store = s.store := rfl
@[simp] theorem modBus_plans (s : State) (f : Bus → Bus) :
    (s.modBus f).plans = s.plans := rfl
@[simp] theorem modBus_loops (s : State) (f : Bus → Bus) :
    (s.modBus f).loops = s.loops := rfl
@[simp] theorem modBus_units (s : State) (f : Bus → Bus) :
    (s.modBus f).units = s.units := rfl
@[simp] theorem modBus_coils (s : State) (f : Bus → Bus) :
    (s.modBus f).coils = s.coils := rfl
@[simp] theorem modBus_overrides (s : State) (f : Bus → Bus) :
    (s.modBus f).overrides = s.overrides := rfl
@[simp] theorem modBus_frost (s : State) (f : Bus → Bus) :
    (s.modBus f).frost = s.frost := rfl
@[simp] theorem modBus_summaries (s : State) (f : Bus → Bus) :
    (s.modBus f).summaries = s.summaries := rfl
@[simp] theorem modBus_bus (s : State) (f : Bus → Bus) :
    (s.modBus f).bus = f s.bus := rfl
@[simp] theorem modBus_nodes (s : State) (f : Bus → Bus) :
    (s.modBus f).nodes = s.nodes := rfl
@[simp] theorem modBus_inputs (s : State) (f : Bus → Bus) :
    (s.modBus f).inputs = s.inputs := rfl
@[simp] theorem modBus_trace (s : State) (f : Bus → Bus) :
    (s.modBus f).trace = s.trace := rfl
@[simp] theorem modBus_notice (s : State) (f : Bus → Bus) :
    (s.modBus f).notice = s.notice := rfl
@[simp] theorem modBus_link (s : State) (f : Bus → Bus) :
    (s.modBus f).link = s.link := rfl
@[simp] theorem modBus_pending (s : State) (f : Bus → Bus) :
    (s.modBus f).pending = s.pending := rfl

/-! ## modCfg -/

@[simp] theorem modCfg_mode (s : State) (f : Settings → Settings) :
    (s.modCfg f).mode = s.mode := rfl
@[simp] theorem modCfg_uptime (s : State) (f : Settings → Settings) :
    (s.modCfg f).uptime = s.uptime := rfl
@[simp] theorem modCfg_cfg (s : State) (f : Settings → Settings) :
    (s.modCfg f).cfg = f s.cfg := rfl
@[simp] theorem modCfg_identity (s : State) (f : Settings → Settings) :
    (s.modCfg f).identity = s.identity := rfl
@[simp] theorem modCfg_store (s : State) (f : Settings → Settings) :
    (s.modCfg f).store = s.store := rfl
@[simp] theorem modCfg_plans (s : State) (f : Settings → Settings) :
    (s.modCfg f).plans = s.plans := rfl
@[simp] theorem modCfg_loops (s : State) (f : Settings → Settings) :
    (s.modCfg f).loops = s.loops := rfl
@[simp] theorem modCfg_units (s : State) (f : Settings → Settings) :
    (s.modCfg f).units = s.units := rfl
@[simp] theorem modCfg_coils (s : State) (f : Settings → Settings) :
    (s.modCfg f).coils = s.coils := rfl
@[simp] theorem modCfg_overrides (s : State) (f : Settings → Settings) :
    (s.modCfg f).overrides = s.overrides := rfl
@[simp] theorem modCfg_frost (s : State) (f : Settings → Settings) :
    (s.modCfg f).frost = s.frost := rfl
@[simp] theorem modCfg_summaries (s : State) (f : Settings → Settings) :
    (s.modCfg f).summaries = s.summaries := rfl
@[simp] theorem modCfg_bus (s : State) (f : Settings → Settings) :
    (s.modCfg f).bus = s.bus := rfl
@[simp] theorem modCfg_nodes (s : State) (f : Settings → Settings) :
    (s.modCfg f).nodes = s.nodes := rfl
@[simp] theorem modCfg_inputs (s : State) (f : Settings → Settings) :
    (s.modCfg f).inputs = s.inputs := rfl
@[simp] theorem modCfg_trace (s : State) (f : Settings → Settings) :
    (s.modCfg f).trace = s.trace := rfl
@[simp] theorem modCfg_notice (s : State) (f : Settings → Settings) :
    (s.modCfg f).notice = s.notice := rfl
@[simp] theorem modCfg_link (s : State) (f : Settings → Settings) :
    (s.modCfg f).link = s.link := rfl
@[simp] theorem modCfg_pending (s : State) (f : Settings → Settings) :
    (s.modCfg f).pending = s.pending := rfl

/-! ## modInputs -/

@[simp] theorem modInputs_mode (s : State) (f : Inputs → Inputs) :
    (s.modInputs f).mode = s.mode := rfl
@[simp] theorem modInputs_uptime (s : State) (f : Inputs → Inputs) :
    (s.modInputs f).uptime = s.uptime := rfl
@[simp] theorem modInputs_cfg (s : State) (f : Inputs → Inputs) :
    (s.modInputs f).cfg = s.cfg := rfl
@[simp] theorem modInputs_identity (s : State) (f : Inputs → Inputs) :
    (s.modInputs f).identity = s.identity := rfl
@[simp] theorem modInputs_store (s : State) (f : Inputs → Inputs) :
    (s.modInputs f).store = s.store := rfl
@[simp] theorem modInputs_plans (s : State) (f : Inputs → Inputs) :
    (s.modInputs f).plans = s.plans := rfl
@[simp] theorem modInputs_loops (s : State) (f : Inputs → Inputs) :
    (s.modInputs f).loops = s.loops := rfl
@[simp] theorem modInputs_units (s : State) (f : Inputs → Inputs) :
    (s.modInputs f).units = s.units := rfl
@[simp] theorem modInputs_coils (s : State) (f : Inputs → Inputs) :
    (s.modInputs f).coils = s.coils := rfl
@[simp] theorem modInputs_overrides (s : State) (f : Inputs → Inputs) :
    (s.modInputs f).overrides = s.overrides := rfl
@[simp] theorem modInputs_frost (s : State) (f : Inputs → Inputs) :
    (s.modInputs f).frost = s.frost := rfl
@[simp] theorem modInputs_summaries (s : State) (f : Inputs → Inputs) :
    (s.modInputs f).summaries = s.summaries := rfl
@[simp] theorem modInputs_bus (s : State) (f : Inputs → Inputs) :
    (s.modInputs f).bus = s.bus := rfl
@[simp] theorem modInputs_nodes (s : State) (f : Inputs → Inputs) :
    (s.modInputs f).nodes = s.nodes := rfl
@[simp] theorem modInputs_inputs (s : State) (f : Inputs → Inputs) :
    (s.modInputs f).inputs = f s.inputs := rfl
@[simp] theorem modInputs_trace (s : State) (f : Inputs → Inputs) :
    (s.modInputs f).trace = s.trace := rfl
@[simp] theorem modInputs_notice (s : State) (f : Inputs → Inputs) :
    (s.modInputs f).notice = s.notice := rfl
@[simp] theorem modInputs_link (s : State) (f : Inputs → Inputs) :
    (s.modInputs f).link = s.link := rfl
@[simp] theorem modInputs_pending (s : State) (f : Inputs → Inputs) :
    (s.modInputs f).pending = s.pending := rfl

/-! ## modLink -/

@[simp] theorem modLink_mode (s : State) (f : Link → Link) :
    (s.modLink f).mode = s.mode := rfl
@[simp] theorem modLink_uptime (s : State) (f : Link → Link) :
    (s.modLink f).uptime = s.uptime := rfl
@[simp] theorem modLink_cfg (s : State) (f : Link → Link) :
    (s.modLink f).cfg = s.cfg := rfl
@[simp] theorem modLink_identity (s : State) (f : Link → Link) :
    (s.modLink f).identity = s.identity := rfl
@[simp] theorem modLink_store (s : State) (f : Link → Link) :
    (s.modLink f).store = s.store := rfl
@[simp] theorem modLink_plans (s : State) (f : Link → Link) :
    (s.modLink f).plans = s.plans := rfl
@[simp] theorem modLink_loops (s : State) (f : Link → Link) :
    (s.modLink f).loops = s.loops := rfl
@[simp] theorem modLink_units (s : State) (f : Link → Link) :
    (s.modLink f).units = s.units := rfl
@[simp] theorem modLink_coils (s : State) (f : Link → Link) :
    (s.modLink f).coils = s.coils := rfl
@[simp] theorem modLink_overrides (s : State) (f : Link → Link) :
    (s.modLink f).overrides = s.overrides := rfl
@[simp] theorem modLink_frost (s : State) (f : Link → Link) :
    (s.modLink f).frost = s.frost := rfl
@[simp] theorem modLink_summaries (s : State) (f : Link → Link) :
    (s.modLink f).summaries = s.summaries := rfl
@[simp] theorem modLink_bus (s : State) (f : Link → Link) :
    (s.modLink f).bus = s.bus := rfl
@[simp] theorem modLink_nodes (s : State) (f : Link → Link) :
    (s.modLink f).nodes = s.nodes := rfl
@[simp] theorem modLink_inputs (s : State) (f : Link → Link) :
    (s.modLink f).inputs = s.inputs := rfl
@[simp] theorem modLink_trace (s : State) (f : Link → Link) :
    (s.modLink f).trace = s.trace := rfl
@[simp] theorem modLink_notice (s : State) (f : Link → Link) :
    (s.modLink f).notice = s.notice := rfl
@[simp] theorem modLink_link (s : State) (f : Link → Link) :
    (s.modLink f).link = f s.link := rfl
@[simp] theorem modLink_pending (s : State) (f : Link → Link) :
    (s.modLink f).pending = s.pending := rfl

/-! ## modChan -/

@[simp] theorem modChan_mode (s : State) (p : ChanId) (f : Chan → Chan) :
    (s.modChan p f).mode = s.mode := rfl
@[simp] theorem modChan_uptime (s : State) (p : ChanId) (f : Chan → Chan) :
    (s.modChan p f).uptime = s.uptime := rfl
@[simp] theorem modChan_cfg (s : State) (p : ChanId) (f : Chan → Chan) :
    (s.modChan p f).cfg = s.cfg := rfl
@[simp] theorem modChan_identity (s : State) (p : ChanId) (f : Chan → Chan) :
    (s.modChan p f).identity = s.identity := rfl
@[simp] theorem modChan_store (s : State) (p : ChanId) (f : Chan → Chan) :
    (s.modChan p f).store = s.store := rfl
@[simp] theorem modChan_plans (s : State) (p : ChanId) (f : Chan → Chan) :
    (s.modChan p f).plans = s.plans := rfl
@[simp] theorem modChan_loops (s : State) (p : ChanId) (f : Chan → Chan) :
    (s.modChan p f).loops = s.loops := rfl
@[simp] theorem modChan_units (s : State) (p : ChanId) (f : Chan → Chan) :
    (s.modChan p f).units = s.units := rfl
@[simp] theorem modChan_coils (s : State) (p : ChanId) (f : Chan → Chan) :
    (s.modChan p f).coils = s.coils := rfl
@[simp] theorem modChan_overrides (s : State) (p : ChanId) (f : Chan → Chan) :
    (s.modChan p f).overrides = s.overrides := rfl
@[simp] theorem modChan_frost (s : State) (p : ChanId) (f : Chan → Chan) :
    (s.modChan p f).frost = s.frost := rfl
@[simp] theorem modChan_summaries (s : State) (p : ChanId) (f : Chan → Chan) :
    (s.modChan p f).summaries = s.summaries := rfl
@[simp] theorem modChan_bus (s : State) (p : ChanId) (f : Chan → Chan) :
    (s.modChan p f).bus = s.bus := rfl
@[simp] theorem modChan_nodes (s : State) (p : ChanId) (f : Chan → Chan) :
    (s.modChan p f).nodes = s.nodes := rfl
@[simp] theorem modChan_inputs (s : State) (p : ChanId) (f : Chan → Chan) :
    (s.modChan p f).inputs = { s.inputs with chans := s.inputs.chans.set p (f s.inputs.chans[p]) } := rfl
@[simp] theorem modChan_trace (s : State) (p : ChanId) (f : Chan → Chan) :
    (s.modChan p f).trace = s.trace := rfl
@[simp] theorem modChan_notice (s : State) (p : ChanId) (f : Chan → Chan) :
    (s.modChan p f).notice = s.notice := rfl
@[simp] theorem modChan_link (s : State) (p : ChanId) (f : Chan → Chan) :
    (s.modChan p f).link = s.link := rfl
@[simp] theorem modChan_pending (s : State) (p : ChanId) (f : Chan → Chan) :
    (s.modChan p f).pending = s.pending := rfl

/-! ## setRoster -/

@[simp] theorem setRoster_mode (s : State) (l : LoopId) (r : List CoilId) :
    (s.setRoster l r).mode = s.mode := rfl
@[simp] theorem setRoster_uptime (s : State) (l : LoopId) (r : List CoilId) :
    (s.setRoster l r).uptime = s.uptime := rfl
@[simp] theorem setRoster_cfg (s : State) (l : LoopId) (r : List CoilId) :
    (s.setRoster l r).cfg = { s.cfg with rosters := s.cfg.rosters.set l r } := rfl
@[simp] theorem setRoster_identity (s : State) (l : LoopId) (r : List CoilId) :
    (s.setRoster l r).identity = s.identity := rfl
@[simp] theorem setRoster_store (s : State) (l : LoopId) (r : List CoilId) :
    (s.setRoster l r).store = s.store := rfl
@[simp] theorem setRoster_plans (s : State) (l : LoopId) (r : List CoilId) :
    (s.setRoster l r).plans = s.plans := rfl
@[simp] theorem setRoster_loops (s : State) (l : LoopId) (r : List CoilId) :
    (s.setRoster l r).loops = s.loops := rfl
@[simp] theorem setRoster_units (s : State) (l : LoopId) (r : List CoilId) :
    (s.setRoster l r).units = s.units := rfl
@[simp] theorem setRoster_coils (s : State) (l : LoopId) (r : List CoilId) :
    (s.setRoster l r).coils = s.coils := rfl
@[simp] theorem setRoster_overrides (s : State) (l : LoopId) (r : List CoilId) :
    (s.setRoster l r).overrides = s.overrides := rfl
@[simp] theorem setRoster_frost (s : State) (l : LoopId) (r : List CoilId) :
    (s.setRoster l r).frost = s.frost := rfl
@[simp] theorem setRoster_summaries (s : State) (l : LoopId) (r : List CoilId) :
    (s.setRoster l r).summaries = s.summaries := rfl
@[simp] theorem setRoster_bus (s : State) (l : LoopId) (r : List CoilId) :
    (s.setRoster l r).bus = s.bus := rfl
@[simp] theorem setRoster_nodes (s : State) (l : LoopId) (r : List CoilId) :
    (s.setRoster l r).nodes = s.nodes := rfl
@[simp] theorem setRoster_inputs (s : State) (l : LoopId) (r : List CoilId) :
    (s.setRoster l r).inputs = s.inputs := rfl
@[simp] theorem setRoster_trace (s : State) (l : LoopId) (r : List CoilId) :
    (s.setRoster l r).trace = s.trace := rfl
@[simp] theorem setRoster_notice (s : State) (l : LoopId) (r : List CoilId) :
    (s.setRoster l r).notice = s.notice := rfl
@[simp] theorem setRoster_link (s : State) (l : LoopId) (r : List CoilId) :
    (s.setRoster l r).link = s.link := rfl
@[simp] theorem setRoster_pending (s : State) (l : LoopId) (r : List CoilId) :
    (s.setRoster l r).pending = s.pending := rfl

/-! ## modCoilRec -/

@[simp] theorem modCoilRec_mode (s : State) (c : CoilId) (f : CoilRec → CoilRec) :
    (s.modCoilRec c f).mode = s.mode := rfl
@[simp] theorem modCoilRec_uptime (s : State) (c : CoilId) (f : CoilRec → CoilRec) :
    (s.modCoilRec c f).uptime = s.uptime := rfl
@[simp] theorem modCoilRec_cfg (s : State) (c : CoilId) (f : CoilRec → CoilRec) :
    (s.modCoilRec c f).cfg = { s.cfg with coils := s.cfg.coils.set c (f s.cfg.coils[c]) } := rfl
@[simp] theorem modCoilRec_identity (s : State) (c : CoilId) (f : CoilRec → CoilRec) :
    (s.modCoilRec c f).identity = s.identity := rfl
@[simp] theorem modCoilRec_store (s : State) (c : CoilId) (f : CoilRec → CoilRec) :
    (s.modCoilRec c f).store = s.store := rfl
@[simp] theorem modCoilRec_plans (s : State) (c : CoilId) (f : CoilRec → CoilRec) :
    (s.modCoilRec c f).plans = s.plans := rfl
@[simp] theorem modCoilRec_loops (s : State) (c : CoilId) (f : CoilRec → CoilRec) :
    (s.modCoilRec c f).loops = s.loops := rfl
@[simp] theorem modCoilRec_units (s : State) (c : CoilId) (f : CoilRec → CoilRec) :
    (s.modCoilRec c f).units = s.units := rfl
@[simp] theorem modCoilRec_coils (s : State) (c : CoilId) (f : CoilRec → CoilRec) :
    (s.modCoilRec c f).coils = s.coils := rfl
@[simp] theorem modCoilRec_overrides (s : State) (c : CoilId) (f : CoilRec → CoilRec) :
    (s.modCoilRec c f).overrides = s.overrides := rfl
@[simp] theorem modCoilRec_frost (s : State) (c : CoilId) (f : CoilRec → CoilRec) :
    (s.modCoilRec c f).frost = s.frost := rfl
@[simp] theorem modCoilRec_summaries (s : State) (c : CoilId) (f : CoilRec → CoilRec) :
    (s.modCoilRec c f).summaries = s.summaries := rfl
@[simp] theorem modCoilRec_bus (s : State) (c : CoilId) (f : CoilRec → CoilRec) :
    (s.modCoilRec c f).bus = s.bus := rfl
@[simp] theorem modCoilRec_nodes (s : State) (c : CoilId) (f : CoilRec → CoilRec) :
    (s.modCoilRec c f).nodes = s.nodes := rfl
@[simp] theorem modCoilRec_inputs (s : State) (c : CoilId) (f : CoilRec → CoilRec) :
    (s.modCoilRec c f).inputs = s.inputs := rfl
@[simp] theorem modCoilRec_trace (s : State) (c : CoilId) (f : CoilRec → CoilRec) :
    (s.modCoilRec c f).trace = s.trace := rfl
@[simp] theorem modCoilRec_notice (s : State) (c : CoilId) (f : CoilRec → CoilRec) :
    (s.modCoilRec c f).notice = s.notice := rfl
@[simp] theorem modCoilRec_link (s : State) (c : CoilId) (f : CoilRec → CoilRec) :
    (s.modCoilRec c f).link = s.link := rfl
@[simp] theorem modCoilRec_pending (s : State) (c : CoilId) (f : CoilRec → CoilRec) :
    (s.modCoilRec c f).pending = s.pending := rfl

/-! ## modShadow -/

@[simp] theorem modShadow_mode (s : State) (n : NodeId) (f : Shadow → Shadow) :
    (s.modShadow n f).mode = s.mode := rfl
@[simp] theorem modShadow_uptime (s : State) (n : NodeId) (f : Shadow → Shadow) :
    (s.modShadow n f).uptime = s.uptime := rfl
@[simp] theorem modShadow_cfg (s : State) (n : NodeId) (f : Shadow → Shadow) :
    (s.modShadow n f).cfg = s.cfg := rfl
@[simp] theorem modShadow_identity (s : State) (n : NodeId) (f : Shadow → Shadow) :
    (s.modShadow n f).identity = s.identity := rfl
@[simp] theorem modShadow_store (s : State) (n : NodeId) (f : Shadow → Shadow) :
    (s.modShadow n f).store = s.store := rfl
@[simp] theorem modShadow_plans (s : State) (n : NodeId) (f : Shadow → Shadow) :
    (s.modShadow n f).plans = s.plans := rfl
@[simp] theorem modShadow_loops (s : State) (n : NodeId) (f : Shadow → Shadow) :
    (s.modShadow n f).loops = s.loops := rfl
@[simp] theorem modShadow_units (s : State) (n : NodeId) (f : Shadow → Shadow) :
    (s.modShadow n f).units = s.units := rfl
@[simp] theorem modShadow_coils (s : State) (n : NodeId) (f : Shadow → Shadow) :
    (s.modShadow n f).coils = s.coils := rfl
@[simp] theorem modShadow_overrides (s : State) (n : NodeId) (f : Shadow → Shadow) :
    (s.modShadow n f).overrides = s.overrides := rfl
@[simp] theorem modShadow_frost (s : State) (n : NodeId) (f : Shadow → Shadow) :
    (s.modShadow n f).frost = s.frost := rfl
@[simp] theorem modShadow_summaries (s : State) (n : NodeId) (f : Shadow → Shadow) :
    (s.modShadow n f).summaries = s.summaries := rfl
@[simp] theorem modShadow_bus (s : State) (n : NodeId) (f : Shadow → Shadow) :
    (s.modShadow n f).bus = s.bus := rfl
@[simp] theorem modShadow_nodes (s : State) (n : NodeId) (f : Shadow → Shadow) :
    (s.modShadow n f).nodes = s.nodes.set n { s.nodes[n] with shadow := f s.nodes[n].shadow } := rfl
@[simp] theorem modShadow_inputs (s : State) (n : NodeId) (f : Shadow → Shadow) :
    (s.modShadow n f).inputs = s.inputs := rfl
@[simp] theorem modShadow_trace (s : State) (n : NodeId) (f : Shadow → Shadow) :
    (s.modShadow n f).trace = s.trace := rfl
@[simp] theorem modShadow_notice (s : State) (n : NodeId) (f : Shadow → Shadow) :
    (s.modShadow n f).notice = s.notice := rfl
@[simp] theorem modShadow_link (s : State) (n : NodeId) (f : Shadow → Shadow) :
    (s.modShadow n f).link = s.link := rfl
@[simp] theorem modShadow_pending (s : State) (n : NodeId) (f : Shadow → Shadow) :
    (s.modShadow n f).pending = s.pending := rfl

/-! ## raise -/

@[simp] theorem raise_mode (s : State) (x : Source) :
    (s.raise x).mode = s.mode := rfl
@[simp] theorem raise_uptime (s : State) (x : Source) :
    (s.raise x).uptime = s.uptime := rfl
@[simp] theorem raise_cfg (s : State) (x : Source) :
    (s.raise x).cfg = s.cfg := rfl
@[simp] theorem raise_identity (s : State) (x : Source) :
    (s.raise x).identity = s.identity := rfl
@[simp] theorem raise_store (s : State) (x : Source) :
    (s.raise x).store = s.store := rfl
@[simp] theorem raise_plans (s : State) (x : Source) :
    (s.raise x).plans = s.plans := rfl
@[simp] theorem raise_loops (s : State) (x : Source) :
    (s.raise x).loops = s.loops := rfl
@[simp] theorem raise_units (s : State) (x : Source) :
    (s.raise x).units = s.units := rfl
@[simp] theorem raise_coils (s : State) (x : Source) :
    (s.raise x).coils = s.coils := rfl
@[simp] theorem raise_overrides (s : State) (x : Source) :
    (s.raise x).overrides = s.overrides := rfl
@[simp] theorem raise_frost (s : State) (x : Source) :
    (s.raise x).frost = s.frost := rfl
@[simp] theorem raise_summaries (s : State) (x : Source) :
    (s.raise x).summaries = s.summaries := rfl
@[simp] theorem raise_bus (s : State) (x : Source) :
    (s.raise x).bus = s.bus := rfl
@[simp] theorem raise_nodes (s : State) (x : Source) :
    (s.raise x).nodes = s.nodes := rfl
@[simp] theorem raise_inputs (s : State) (x : Source) :
    (s.raise x).inputs = s.inputs := rfl
@[simp] theorem raise_trace (s : State) (x : Source) :
    (s.raise x).trace = s.trace := rfl
@[simp] theorem raise_notice (s : State) (x : Source) :
    (s.raise x).notice = s.notice.raise x := rfl
@[simp] theorem raise_link (s : State) (x : Source) :
    (s.raise x).link = s.link := rfl
@[simp] theorem raise_pending (s : State) (x : Source) :
    (s.raise x).pending = s.pending := rfl

/-! ## place -/

@[simp] theorem place_mode (s : State) (p : Placement) :
    (s.place p).mode = s.mode := rfl
@[simp] theorem place_uptime (s : State) (p : Placement) :
    (s.place p).uptime = s.uptime := rfl
@[simp] theorem place_cfg (s : State) (p : Placement) :
    (s.place p).cfg = s.cfg := rfl
@[simp] theorem place_identity (s : State) (p : Placement) :
    (s.place p).identity = s.identity := rfl
@[simp] theorem place_store (s : State) (p : Placement) :
    (s.place p).store = s.store := rfl
@[simp] theorem place_plans (s : State) (p : Placement) :
    (s.place p).plans = s.plans := rfl
@[simp] theorem place_loops (s : State) (p : Placement) :
    (s.place p).loops = s.loops := rfl
@[simp] theorem place_units (s : State) (p : Placement) :
    (s.place p).units = s.units := rfl
@[simp] theorem place_coils (s : State) (p : Placement) :
    (s.place p).coils = s.coils := rfl
@[simp] theorem place_overrides (s : State) (p : Placement) :
    (s.place p).overrides = s.overrides := rfl
@[simp] theorem place_frost (s : State) (p : Placement) :
    (s.place p).frost = s.frost := rfl
@[simp] theorem place_summaries (s : State) (p : Placement) :
    (s.place p).summaries = s.summaries := rfl
@[simp] theorem place_bus (s : State) (p : Placement) :
    (s.place p).bus = s.bus := rfl
@[simp] theorem place_nodes (s : State) (p : Placement) :
    (s.place p).nodes = s.nodes := rfl
@[simp] theorem place_inputs (s : State) (p : Placement) :
    (s.place p).inputs = s.inputs := rfl
@[simp] theorem place_trace (s : State) (p : Placement) :
    (s.place p).trace = s.trace := rfl
@[simp] theorem place_notice (s : State) (p : Placement) :
    (s.place p).notice = s.notice := rfl
@[simp] theorem place_link (s : State) (p : Placement) :
    (s.place p).link = { s.link with tx := s.link.tx ++ [p] } := rfl
@[simp] theorem place_pending (s : State) (p : Placement) :
    (s.place p).pending = s.pending := rfl

/-! ## closeHalf, offer, event -/

@[simp] theorem closeHalf_mode (s : State) (h : HalfId) : (s.closeHalf h).mode = s.mode := rfl
@[simp] theorem closeHalf_uptime (s : State) (h : HalfId) : (s.closeHalf h).uptime = s.uptime := rfl
@[simp] theorem closeHalf_cfg (s : State) (h : HalfId) : (s.closeHalf h).cfg = s.cfg := rfl
@[simp] theorem closeHalf_identity (s : State) (h : HalfId) : (s.closeHalf h).identity = s.identity := rfl
@[simp] theorem closeHalf_store (s : State) (h : HalfId) : (s.closeHalf h).store = s.store := rfl
@[simp] theorem closeHalf_plans (s : State) (h : HalfId) : (s.closeHalf h).plans = s.plans := rfl
@[simp] theorem closeHalf_loops (s : State) (h : HalfId) : (s.closeHalf h).loops = s.loops := rfl
@[simp] theorem closeHalf_units (s : State) (h : HalfId) : (s.closeHalf h).units = s.units := rfl
@[simp] theorem closeHalf_coils (s : State) (h : HalfId) : (s.closeHalf h).coils = s.coils := rfl
@[simp] theorem closeHalf_overrides (s : State) (h : HalfId) : (s.closeHalf h).overrides = s.overrides := rfl
@[simp] theorem closeHalf_frost (s : State) (h : HalfId) : (s.closeHalf h).frost = s.frost := rfl
@[simp] theorem closeHalf_summaries (s : State) (h : HalfId) : (s.closeHalf h).summaries = s.summaries := rfl
@[simp] theorem closeHalf_bus (s : State) (h : HalfId) : (s.closeHalf h).bus = s.bus := rfl
@[simp] theorem closeHalf_nodes (s : State) (h : HalfId) : (s.closeHalf h).nodes = s.nodes := rfl
@[simp] theorem closeHalf_inputs (s : State) (h : HalfId) : (s.closeHalf h).inputs = s.inputs := rfl
@[simp] theorem closeHalf_link (s : State) (h : HalfId) : (s.closeHalf h).link = s.link := rfl
@[simp] theorem closeHalf_pending (s : State) (h : HalfId) : (s.closeHalf h).pending = s.pending := rfl
@[simp] theorem closeHalf_trace (s : State) (h : HalfId) : (s.closeHalf h).trace = s.trace.close h s.uptime := rfl
@[simp] theorem closeHalf_notice (s : State) (h : HalfId) : (s.closeHalf h).notice = s.notice.raise .trace := rfl

@[simp] theorem offer_mode (s : State) (x : Subject) (b : TraceBody) : (s.offer x b).mode = s.mode := by
  unfold State.offer
  split
  · rfl
  · dsimp only
    split <;> rfl
@[simp] theorem offer_uptime (s : State) (x : Subject) (b : TraceBody) : (s.offer x b).uptime = s.uptime := by
  unfold State.offer
  split
  · rfl
  · dsimp only
    split <;> rfl
@[simp] theorem offer_cfg (s : State) (x : Subject) (b : TraceBody) : (s.offer x b).cfg = s.cfg := by
  unfold State.offer
  split
  · rfl
  · dsimp only
    split <;> rfl
@[simp] theorem offer_identity (s : State) (x : Subject) (b : TraceBody) : (s.offer x b).identity = s.identity := by
  unfold State.offer
  split
  · rfl
  · dsimp only
    split <;> rfl
@[simp] theorem offer_store (s : State) (x : Subject) (b : TraceBody) : (s.offer x b).store = s.store := by
  unfold State.offer
  split
  · rfl
  · dsimp only
    split <;> rfl
@[simp] theorem offer_plans (s : State) (x : Subject) (b : TraceBody) : (s.offer x b).plans = s.plans := by
  unfold State.offer
  split
  · rfl
  · dsimp only
    split <;> rfl
@[simp] theorem offer_loops (s : State) (x : Subject) (b : TraceBody) : (s.offer x b).loops = s.loops := by
  unfold State.offer
  split
  · rfl
  · dsimp only
    split <;> rfl
@[simp] theorem offer_units (s : State) (x : Subject) (b : TraceBody) : (s.offer x b).units = s.units := by
  unfold State.offer
  split
  · rfl
  · dsimp only
    split <;> rfl
@[simp] theorem offer_coils (s : State) (x : Subject) (b : TraceBody) : (s.offer x b).coils = s.coils := by
  unfold State.offer
  split
  · rfl
  · dsimp only
    split <;> rfl
@[simp] theorem offer_overrides (s : State) (x : Subject) (b : TraceBody) : (s.offer x b).overrides = s.overrides := by
  unfold State.offer
  split
  · rfl
  · dsimp only
    split <;> rfl
@[simp] theorem offer_frost (s : State) (x : Subject) (b : TraceBody) : (s.offer x b).frost = s.frost := by
  unfold State.offer
  split
  · rfl
  · dsimp only
    split <;> rfl
@[simp] theorem offer_summaries (s : State) (x : Subject) (b : TraceBody) : (s.offer x b).summaries = s.summaries := by
  unfold State.offer
  split
  · rfl
  · dsimp only
    split <;> rfl
@[simp] theorem offer_bus (s : State) (x : Subject) (b : TraceBody) : (s.offer x b).bus = s.bus := by
  unfold State.offer
  split
  · rfl
  · dsimp only
    split <;> rfl
@[simp] theorem offer_nodes (s : State) (x : Subject) (b : TraceBody) : (s.offer x b).nodes = s.nodes := by
  unfold State.offer
  split
  · rfl
  · dsimp only
    split <;> rfl
@[simp] theorem offer_inputs (s : State) (x : Subject) (b : TraceBody) : (s.offer x b).inputs = s.inputs := by
  unfold State.offer
  split
  · rfl
  · dsimp only
    split <;> rfl
@[simp] theorem offer_link (s : State) (x : Subject) (b : TraceBody) : (s.offer x b).link = s.link := by
  unfold State.offer
  split
  · rfl
  · dsimp only
    split <;> rfl
@[simp] theorem offer_pending (s : State) (x : Subject) (b : TraceBody) : (s.offer x b).pending = s.pending := by
  unfold State.offer
  split
  · rfl
  · dsimp only
    split <;> rfl
@[simp] theorem event_mode (s : State) (x : Subject) (e : EventCode) (d : List Field) : (s.event x e d).mode = s.mode :=
  offer_mode s x _
@[simp] theorem event_uptime (s : State) (x : Subject) (e : EventCode) (d : List Field) : (s.event x e d).uptime = s.uptime :=
  offer_uptime s x _
@[simp] theorem event_cfg (s : State) (x : Subject) (e : EventCode) (d : List Field) : (s.event x e d).cfg = s.cfg :=
  offer_cfg s x _
@[simp] theorem event_identity (s : State) (x : Subject) (e : EventCode) (d : List Field) : (s.event x e d).identity = s.identity :=
  offer_identity s x _
@[simp] theorem event_store (s : State) (x : Subject) (e : EventCode) (d : List Field) : (s.event x e d).store = s.store :=
  offer_store s x _
@[simp] theorem event_plans (s : State) (x : Subject) (e : EventCode) (d : List Field) : (s.event x e d).plans = s.plans :=
  offer_plans s x _
@[simp] theorem event_loops (s : State) (x : Subject) (e : EventCode) (d : List Field) : (s.event x e d).loops = s.loops :=
  offer_loops s x _
@[simp] theorem event_units (s : State) (x : Subject) (e : EventCode) (d : List Field) : (s.event x e d).units = s.units :=
  offer_units s x _
@[simp] theorem event_coils (s : State) (x : Subject) (e : EventCode) (d : List Field) : (s.event x e d).coils = s.coils :=
  offer_coils s x _
@[simp] theorem event_overrides (s : State) (x : Subject) (e : EventCode) (d : List Field) : (s.event x e d).overrides = s.overrides :=
  offer_overrides s x _
@[simp] theorem event_frost (s : State) (x : Subject) (e : EventCode) (d : List Field) : (s.event x e d).frost = s.frost :=
  offer_frost s x _
@[simp] theorem event_summaries (s : State) (x : Subject) (e : EventCode) (d : List Field) : (s.event x e d).summaries = s.summaries :=
  offer_summaries s x _
@[simp] theorem event_bus (s : State) (x : Subject) (e : EventCode) (d : List Field) : (s.event x e d).bus = s.bus :=
  offer_bus s x _
@[simp] theorem event_nodes (s : State) (x : Subject) (e : EventCode) (d : List Field) : (s.event x e d).nodes = s.nodes :=
  offer_nodes s x _
@[simp] theorem event_inputs (s : State) (x : Subject) (e : EventCode) (d : List Field) : (s.event x e d).inputs = s.inputs :=
  offer_inputs s x _
@[simp] theorem event_link (s : State) (x : Subject) (e : EventCode) (d : List Field) : (s.event x e d).link = s.link :=
  offer_link s x _
@[simp] theorem event_pending (s : State) (x : Subject) (e : EventCode) (d : List Field) : (s.event x e d).pending = s.pending :=
  offer_pending s x _

/-! ## busRequest: no part of the state but nodes, bus, trace and notice -/

@[simp] theorem commandLost_mode (s : State) (n : NodeId) (w : List Field) : (s.commandLost n w).mode = s.mode := by
  simp [State.commandLost]
@[simp] theorem commandLost_uptime (s : State) (n : NodeId) (w : List Field) : (s.commandLost n w).uptime = s.uptime := by
  simp [State.commandLost]
@[simp] theorem commandLost_cfg (s : State) (n : NodeId) (w : List Field) : (s.commandLost n w).cfg = s.cfg := by
  simp [State.commandLost]
@[simp] theorem commandLost_identity (s : State) (n : NodeId) (w : List Field) : (s.commandLost n w).identity = s.identity := by
  simp [State.commandLost]
@[simp] theorem commandLost_store (s : State) (n : NodeId) (w : List Field) : (s.commandLost n w).store = s.store := by
  simp [State.commandLost]
@[simp] theorem commandLost_plans (s : State) (n : NodeId) (w : List Field) : (s.commandLost n w).plans = s.plans := by
  simp [State.commandLost]
@[simp] theorem commandLost_loops (s : State) (n : NodeId) (w : List Field) : (s.commandLost n w).loops = s.loops := by
  simp [State.commandLost]
@[simp] theorem commandLost_units (s : State) (n : NodeId) (w : List Field) : (s.commandLost n w).units = s.units := by
  simp [State.commandLost]
@[simp] theorem commandLost_coils (s : State) (n : NodeId) (w : List Field) : (s.commandLost n w).coils = s.coils := by
  simp [State.commandLost]
@[simp] theorem commandLost_overrides (s : State) (n : NodeId) (w : List Field) : (s.commandLost n w).overrides = s.overrides := by
  simp [State.commandLost]
@[simp] theorem commandLost_frost (s : State) (n : NodeId) (w : List Field) : (s.commandLost n w).frost = s.frost := by
  simp [State.commandLost]
@[simp] theorem commandLost_summaries (s : State) (n : NodeId) (w : List Field) : (s.commandLost n w).summaries = s.summaries := by
  simp [State.commandLost]
@[simp] theorem commandLost_inputs (s : State) (n : NodeId) (w : List Field) : (s.commandLost n w).inputs = s.inputs := by
  simp [State.commandLost]
@[simp] theorem commandLost_link (s : State) (n : NodeId) (w : List Field) : (s.commandLost n w).link = s.link := by
  simp [State.commandLost]
@[simp] theorem commandLost_pending (s : State) (n : NodeId) (w : List Field) : (s.commandLost n w).pending = s.pending := by
  simp [State.commandLost]
@[simp] theorem busRequest_mode (s : State) (n : NodeId) (v : Int) (u : Urgency) : (s.busRequest n v u).mode = s.mode := by
  unfold State.busRequest
  dsimp only
  repeat' split
  all_goals simp
@[simp] theorem busRequest_uptime (s : State) (n : NodeId) (v : Int) (u : Urgency) : (s.busRequest n v u).uptime = s.uptime := by
  unfold State.busRequest
  dsimp only
  repeat' split
  all_goals simp
@[simp] theorem busRequest_cfg (s : State) (n : NodeId) (v : Int) (u : Urgency) : (s.busRequest n v u).cfg = s.cfg := by
  unfold State.busRequest
  dsimp only
  repeat' split
  all_goals simp
@[simp] theorem busRequest_identity (s : State) (n : NodeId) (v : Int) (u : Urgency) : (s.busRequest n v u).identity = s.identity := by
  unfold State.busRequest
  dsimp only
  repeat' split
  all_goals simp
@[simp] theorem busRequest_store (s : State) (n : NodeId) (v : Int) (u : Urgency) : (s.busRequest n v u).store = s.store := by
  unfold State.busRequest
  dsimp only
  repeat' split
  all_goals simp
@[simp] theorem busRequest_plans (s : State) (n : NodeId) (v : Int) (u : Urgency) : (s.busRequest n v u).plans = s.plans := by
  unfold State.busRequest
  dsimp only
  repeat' split
  all_goals simp
@[simp] theorem busRequest_loops (s : State) (n : NodeId) (v : Int) (u : Urgency) : (s.busRequest n v u).loops = s.loops := by
  unfold State.busRequest
  dsimp only
  repeat' split
  all_goals simp
@[simp] theorem busRequest_units (s : State) (n : NodeId) (v : Int) (u : Urgency) : (s.busRequest n v u).units = s.units := by
  unfold State.busRequest
  dsimp only
  repeat' split
  all_goals simp
@[simp] theorem busRequest_coils (s : State) (n : NodeId) (v : Int) (u : Urgency) : (s.busRequest n v u).coils = s.coils := by
  unfold State.busRequest
  dsimp only
  repeat' split
  all_goals simp
@[simp] theorem busRequest_overrides (s : State) (n : NodeId) (v : Int) (u : Urgency) : (s.busRequest n v u).overrides = s.overrides := by
  unfold State.busRequest
  dsimp only
  repeat' split
  all_goals simp
@[simp] theorem busRequest_frost (s : State) (n : NodeId) (v : Int) (u : Urgency) : (s.busRequest n v u).frost = s.frost := by
  unfold State.busRequest
  dsimp only
  repeat' split
  all_goals simp
@[simp] theorem busRequest_summaries (s : State) (n : NodeId) (v : Int) (u : Urgency) : (s.busRequest n v u).summaries = s.summaries := by
  unfold State.busRequest
  dsimp only
  repeat' split
  all_goals simp
@[simp] theorem busRequest_inputs (s : State) (n : NodeId) (v : Int) (u : Urgency) : (s.busRequest n v u).inputs = s.inputs := by
  unfold State.busRequest
  dsimp only
  repeat' split
  all_goals simp
@[simp] theorem busRequest_link (s : State) (n : NodeId) (v : Int) (u : Urgency) : (s.busRequest n v u).link = s.link := by
  unfold State.busRequest
  dsimp only
  repeat' split
  all_goals simp
@[simp] theorem busRequest_pending (s : State) (n : NodeId) (v : Int) (u : Urgency) : (s.busRequest n v u).pending = s.pending := by
  unfold State.busRequest
  dsimp only
  repeat' split
  all_goals simp
@[simp] theorem requestIf_mode (s : State) (n : Option NodeId) (v : Int) (u : Urgency) :
    (s.requestIf n v u).mode = s.mode := by
  unfold State.requestIf
  split <;> simp
@[simp] theorem requestIf_uptime (s : State) (n : Option NodeId) (v : Int) (u : Urgency) :
    (s.requestIf n v u).uptime = s.uptime := by
  unfold State.requestIf
  split <;> simp
@[simp] theorem requestIf_cfg (s : State) (n : Option NodeId) (v : Int) (u : Urgency) :
    (s.requestIf n v u).cfg = s.cfg := by
  unfold State.requestIf
  split <;> simp
@[simp] theorem requestIf_identity (s : State) (n : Option NodeId) (v : Int) (u : Urgency) :
    (s.requestIf n v u).identity = s.identity := by
  unfold State.requestIf
  split <;> simp
@[simp] theorem requestIf_store (s : State) (n : Option NodeId) (v : Int) (u : Urgency) :
    (s.requestIf n v u).store = s.store := by
  unfold State.requestIf
  split <;> simp
@[simp] theorem requestIf_plans (s : State) (n : Option NodeId) (v : Int) (u : Urgency) :
    (s.requestIf n v u).plans = s.plans := by
  unfold State.requestIf
  split <;> simp
@[simp] theorem requestIf_loops (s : State) (n : Option NodeId) (v : Int) (u : Urgency) :
    (s.requestIf n v u).loops = s.loops := by
  unfold State.requestIf
  split <;> simp
@[simp] theorem requestIf_units (s : State) (n : Option NodeId) (v : Int) (u : Urgency) :
    (s.requestIf n v u).units = s.units := by
  unfold State.requestIf
  split <;> simp
@[simp] theorem requestIf_coils (s : State) (n : Option NodeId) (v : Int) (u : Urgency) :
    (s.requestIf n v u).coils = s.coils := by
  unfold State.requestIf
  split <;> simp
@[simp] theorem requestIf_overrides (s : State) (n : Option NodeId) (v : Int) (u : Urgency) :
    (s.requestIf n v u).overrides = s.overrides := by
  unfold State.requestIf
  split <;> simp
@[simp] theorem requestIf_frost (s : State) (n : Option NodeId) (v : Int) (u : Urgency) :
    (s.requestIf n v u).frost = s.frost := by
  unfold State.requestIf
  split <;> simp
@[simp] theorem requestIf_summaries (s : State) (n : Option NodeId) (v : Int) (u : Urgency) :
    (s.requestIf n v u).summaries = s.summaries := by
  unfold State.requestIf
  split <;> simp
@[simp] theorem requestIf_inputs (s : State) (n : Option NodeId) (v : Int) (u : Urgency) :
    (s.requestIf n v u).inputs = s.inputs := by
  unfold State.requestIf
  split <;> simp
@[simp] theorem requestIf_link (s : State) (n : Option NodeId) (v : Int) (u : Urgency) :
    (s.requestIf n v u).link = s.link := by
  unfold State.requestIf
  split <;> simp
@[simp] theorem requestIf_pending (s : State) (n : Option NodeId) (v : Int) (u : Urgency) :
    (s.requestIf n v u).pending = s.pending := by
  unfold State.requestIf
  split <;> simp

/-! ## inCoilOrder, oneEvent: no part of the state but the order of the two queues -/

@[simp] theorem inCoilOrder_mode (s : State) (b : Bus) : (s.inCoilOrder b).mode = s.mode := rfl
@[simp] theorem oneEvent_mode (s : State) (f : State → State) : (s.oneEvent f).mode = (f s).mode := rfl
@[simp] theorem inCoilOrder_uptime (s : State) (b : Bus) : (s.inCoilOrder b).uptime = s.uptime := rfl
@[simp] theorem oneEvent_uptime (s : State) (f : State → State) : (s.oneEvent f).uptime = (f s).uptime := rfl
@[simp] theorem inCoilOrder_cfg (s : State) (b : Bus) : (s.inCoilOrder b).cfg = s.cfg := rfl
@[simp] theorem oneEvent_cfg (s : State) (f : State → State) : (s.oneEvent f).cfg = (f s).cfg := rfl
@[simp] theorem inCoilOrder_identity (s : State) (b : Bus) : (s.inCoilOrder b).identity = s.identity := rfl
@[simp] theorem oneEvent_identity (s : State) (f : State → State) : (s.oneEvent f).identity = (f s).identity := rfl
@[simp] theorem inCoilOrder_store (s : State) (b : Bus) : (s.inCoilOrder b).store = s.store := rfl
@[simp] theorem oneEvent_store (s : State) (f : State → State) : (s.oneEvent f).store = (f s).store := rfl
@[simp] theorem inCoilOrder_plans (s : State) (b : Bus) : (s.inCoilOrder b).plans = s.plans := rfl
@[simp] theorem oneEvent_plans (s : State) (f : State → State) : (s.oneEvent f).plans = (f s).plans := rfl
@[simp] theorem inCoilOrder_loops (s : State) (b : Bus) : (s.inCoilOrder b).loops = s.loops := rfl
@[simp] theorem oneEvent_loops (s : State) (f : State → State) : (s.oneEvent f).loops = (f s).loops := rfl
@[simp] theorem inCoilOrder_units (s : State) (b : Bus) : (s.inCoilOrder b).units = s.units := rfl
@[simp] theorem oneEvent_units (s : State) (f : State → State) : (s.oneEvent f).units = (f s).units := rfl
@[simp] theorem inCoilOrder_coils (s : State) (b : Bus) : (s.inCoilOrder b).coils = s.coils := rfl
@[simp] theorem oneEvent_coils (s : State) (f : State → State) : (s.oneEvent f).coils = (f s).coils := rfl
@[simp] theorem inCoilOrder_overrides (s : State) (b : Bus) : (s.inCoilOrder b).overrides = s.overrides := rfl
@[simp] theorem oneEvent_overrides (s : State) (f : State → State) : (s.oneEvent f).overrides = (f s).overrides := rfl
@[simp] theorem inCoilOrder_frost (s : State) (b : Bus) : (s.inCoilOrder b).frost = s.frost := rfl
@[simp] theorem oneEvent_frost (s : State) (f : State → State) : (s.oneEvent f).frost = (f s).frost := rfl
@[simp] theorem inCoilOrder_summaries (s : State) (b : Bus) : (s.inCoilOrder b).summaries = s.summaries := rfl
@[simp] theorem oneEvent_summaries (s : State) (f : State → State) : (s.oneEvent f).summaries = (f s).summaries := rfl
@[simp] theorem inCoilOrder_nodes (s : State) (b : Bus) : (s.inCoilOrder b).nodes = s.nodes := rfl
@[simp] theorem oneEvent_nodes (s : State) (f : State → State) : (s.oneEvent f).nodes = (f s).nodes := rfl
@[simp] theorem inCoilOrder_inputs (s : State) (b : Bus) : (s.inCoilOrder b).inputs = s.inputs := rfl
@[simp] theorem oneEvent_inputs (s : State) (f : State → State) : (s.oneEvent f).inputs = (f s).inputs := rfl
@[simp] theorem inCoilOrder_trace (s : State) (b : Bus) : (s.inCoilOrder b).trace = s.trace := rfl
@[simp] theorem oneEvent_trace (s : State) (f : State → State) : (s.oneEvent f).trace = (f s).trace := rfl
@[simp] theorem inCoilOrder_notice (s : State) (b : Bus) : (s.inCoilOrder b).notice = s.notice := rfl
@[simp] theorem oneEvent_notice (s : State) (f : State → State) : (s.oneEvent f).notice = (f s).notice := rfl
@[simp] theorem inCoilOrder_link (s : State) (b : Bus) : (s.inCoilOrder b).link = s.link := rfl
@[simp] theorem oneEvent_link (s : State) (f : State → State) : (s.oneEvent f).link = (f s).link := rfl
@[simp] theorem inCoilOrder_pending (s : State) (b : Bus) : (s.inCoilOrder b).pending = s.pending := rfl
@[simp] theorem oneEvent_pending (s : State) (f : State → State) : (s.oneEvent f).pending = (f s).pending := rfl
@[simp] theorem inCoilOrder_bus_rate (s : State) (b : Bus) : (s.inCoilOrder b).bus.rate = s.bus.rate := rfl
@[simp] theorem oneEvent_bus_rate (s : State) (f : State → State) : (s.oneEvent f).bus.rate = (f s).bus.rate := rfl
@[simp] theorem inCoilOrder_bus_line (s : State) (b : Bus) : (s.inCoilOrder b).bus.line = s.bus.line := rfl
@[simp] theorem oneEvent_bus_line (s : State) (f : State → State) : (s.oneEvent f).bus.line = (f s).bus.line := rfl
@[simp] theorem inCoilOrder_bus_lineErrors (s : State) (b : Bus) : (s.inCoilOrder b).bus.lineErrors = s.bus.lineErrors := rfl
@[simp] theorem oneEvent_bus_lineErrors (s : State) (f : State → State) : (s.oneEvent f).bus.lineErrors = (f s).bus.lineErrors := rfl
@[simp] theorem inCoilOrder_bus_flight (s : State) (b : Bus) : (s.inCoilOrder b).bus.flight = s.bus.flight := rfl
@[simp] theorem oneEvent_bus_flight (s : State) (f : State → State) : (s.oneEvent f).bus.flight = (f s).bus.flight := rfl
@[simp] theorem inCoilOrder_bus_rx (s : State) (b : Bus) : (s.inCoilOrder b).bus.rx = s.bus.rx := rfl
@[simp] theorem oneEvent_bus_rx (s : State) (f : State → State) : (s.oneEvent f).bus.rx = (f s).bus.rx := rfl
@[simp] theorem inCoilOrder_bus_pass (s : State) (b : Bus) : (s.inCoilOrder b).bus.pass = s.bus.pass := rfl
@[simp] theorem oneEvent_bus_pass (s : State) (f : State → State) : (s.oneEvent f).bus.pass = (f s).bus.pass := rfl
@[simp] theorem inCoilOrder_bus_poller (s : State) (b : Bus) : (s.inCoilOrder b).bus.poller = s.bus.poller := rfl
@[simp] theorem oneEvent_bus_poller (s : State) (f : State → State) : (s.oneEvent f).bus.poller = (f s).bus.poller := rfl
@[simp] theorem inCoilOrder_bus_share (s : State) (b : Bus) : (s.inCoilOrder b).bus.share = s.bus.share := rfl
@[simp] theorem oneEvent_bus_share (s : State) (f : State → State) : (s.oneEvent f).bus.share = (f s).bus.share := rfl
@[simp] theorem inCoilOrder_bus_lost (s : State) (b : Bus) : (s.inCoilOrder b).bus.lost = s.bus.lost := rfl
@[simp] theorem oneEvent_bus_lost (s : State) (f : State → State) : (s.oneEvent f).bus.lost = (f s).bus.lost := rfl

end Sys2Proof.Machine
end

