-- ==== Sys2Proof/Laws/Order.lean ====
section
/-! SUPPORT. The order of one event's requests (R87): it permutes what has joined a queue, and changes nothing where at most one entry has
joined, or all have joined in order. -/

namespace Sys2Proof.Machine

theorem orderJoined_perm (rank : Entry → Nat) (before now : List Entry) : (orderJoined rank before now).Perm now := by
  unfold orderJoined
  exact (List.Perm.append_left _ (List.perm_insertionSort _ _)).trans (List.filter_append_perm _ _)

/-- A queue whose new entries stand in order already is left as it is. -/
theorem orderJoined_of_sorted (rank : Entry → Nat) {before old new : List Entry} (ho : ∀ e ∈ old, queuedIn before e.node = true)
    (hn : ∀ e ∈ new, queuedIn before e.node = false) (hs : new.Pairwise fun a b => rank a ≤ rank b) :
    orderJoined rank before (old ++ new) = old ++ new := by
  have a : (old.filter fun e => queuedIn before e.node) = old := List.filter_eq_self.2 ho
  have b : (new.filter fun e => queuedIn before e.node) = [] := List.filter_eq_nil_iff.2 fun e h => by simp [hn e h]
  have c : (old.filter fun e => !queuedIn before e.node) = [] := List.filter_eq_nil_iff.2 fun e h => by simp [ho e h]
  have d : (new.filter fun e => !queuedIn before e.node) = new := List.filter_eq_self.2 fun e h => by simp [hn e h]
  unfold orderJoined
  rw [List.filter_append, List.filter_append, a, b, c, d, List.append_nil, List.nil_append]
  congr 1
  exact hs.insertionSort_eq

theorem queuedIn_self {q : List Entry} {e : Entry} (h : e ∈ q) : queuedIn q e.node = true := by
  unfold queuedIn
  exact List.any_eq_true.2 ⟨e, h, by simp⟩

/-- A queue nothing has joined is left as it is. -/
@[simp] theorem orderJoined_self (rank : Entry → Nat) (q : List Entry) : orderJoined rank q q = q := by
  have h := orderJoined_of_sorted rank (before := q) (old := q) (new := []) (fun _ h => queuedIn_self h) (by simp) (by simp)
  simpa using h

/-- A queue that one entry of a new node has joined is left as it is. -/
theorem orderJoined_one (rank : Entry → Nat) {q : List Entry} {e : Entry} (h : queuedIn q e.node = false) :
    orderJoined rank q (q ++ [e]) = q ++ [e] :=
  orderJoined_of_sorted rank (fun _ h => queuedIn_self h) (by simpa using h) (by simp)

/-- The bus after one event: its queues permuted. -/
theorem inCoilOrder_bus (s : State) (b : Bus) :
    ∃ p q, p.Perm s.bus.urgent ∧ q.Perm s.bus.routine ∧ (s.inCoilOrder b).bus = { s.bus with urgent := p, routine := q } :=
  ⟨_, _, orderJoined_perm _ _ _, orderJoined_perm _ _ _, rfl⟩

/-- An event whose requests have left both queues as they were, or have joined them in order, needs no ordering. -/
theorem oneEvent_of_ordered (s : State) (f : State → State)
    (hu : orderJoined (f s).requestRank s.bus.urgent (f s).bus.urgent = (f s).bus.urgent)
    (hr : orderJoined (f s).requestRank s.bus.routine (f s).bus.routine = (f s).bus.routine) : s.oneEvent f = f s := by
  unfold State.oneEvent State.inCoilOrder State.modBus
  dsimp only
  rw [hu, hr]

/-- An event that leaves the queues alone. -/
theorem oneEvent_quiet (s : State) (f : State → State) (hu : (f s).bus.urgent = s.bus.urgent)
    (hr : (f s).bus.routine = s.bus.routine) : s.oneEvent f = f s :=
  oneEvent_of_ordered s f (by rw [hu, orderJoined_self]) (by rw [hr, orderJoined_self])

end Sys2Proof.Machine
end

