-- ==== Sys2Proof/Laws/Moves.lean ====
section
/-! SUPPORT. Everything the blocks do inside one command is a chain of a few moves. The level says how far a chain may reach: at 0 the
moves of the owners of output points, the plan unit, the frost monitor and the input unit; from 1 on also those of the roof bus
master and the link; from 2 on those of requests; from 3 on those of starts, modes and the clock. -/

namespace Sys2Proof.Machine

/-- One move. What a move leaves alone is what its constructor does not name. -/
inductive Move (lv : Nat) : State → State → Prop where
  | loops (s : State) (v : Vector LoopSt 4) : Move lv s { s with loops := v }
  | units (s : State) (v : Vector LoopCoils 4) : Move lv s { s with units := v }
  | coils (s : State) (v : Vector CoilSt 16) : Move lv s { s with coils := v }
  | overrides (s : State) (v : Vector (Option Override) 16) : Move lv s { s with overrides := v }
  | frost (s : State) (v : Vector FrostRec 16) : Move lv s { s with frost := v }
  | summaries (s : State) (v : Vector Summary 4) : Move lv s { s with summaries := v }
  | inputs (s : State) (v : Inputs) : Move lv s { s with inputs := v }
  | rosters (s : State) (v : Vector (List CoilId) 4) : Move lv s { s with cfg := { s.cfg with rosters := v } }
  | coilRecs (s : State) (v : Vector CoilRec 16) : Move lv s { s with cfg := { s.cfg with coils := v } }
  | plan (s : State) (l : LoopId) (p : Plan) (h : PlanLaw s.plans[l] → PlanLaw p) :
      Move lv s { s with plans := s.plans.set l p }
  | offer (s : State) (x : Subject) (b : TraceBody) : Move lv s (s.offer x b)
  | raise (s : State) (x : Source) : Move lv s (s.raise x)
  | ask (s : State) (n : NodeId) (v : Int) (u : Urgency) : Move lv s (s.busRequest n v u)
  | order (s : State) (p q : List Entry) (hp : p.Perm s.bus.urgent) (hq : q.Perm s.bus.routine) :
      Move lv s { s with bus := { s.bus with urgent := p, routine := q } }
  | nodes (s : State) (v : Vector NodeEntry 31) (h : 1 ≤ lv) : Move lv s { s with nodes := v }
  | bus (s : State) (b : Bus) (h : 1 ≤ lv) (hq : QueueLaw s.bus → QueueLaw b) : Move lv s { s with bus := b }
  | link (s : State) (x : Link) (h : 1 ≤ lv) : Move lv s { s with link := x }
  | cfg (s : State) (g : Settings) (h : 2 ≤ lv) : Move lv s { s with cfg := g }
  | trace (s : State) (t : Trace) (h : 2 ≤ lv) (ht : TraceLaw s.trace → TraceLaw t) : Move lv s { s with trace := t }
  | notice (s : State) (n : Notice) (h : 2 ≤ lv) (hn : NoticeLaw s.notice → NoticeLaw n) : Move lv s { s with notice := n }
  | plans (s : State) (v : Vector Plan 4) (h : 3 ≤ lv)
      (hp : (∀ l : LoopId, PlanLaw s.plans[l]) → ∀ l : LoopId, PlanLaw v[l]) : Move lv s { s with plans := v }
  | part (s : State) (m : PartMode) (u : Nat) (d : Identity) (x : Store) (h : 3 ≤ lv) :
      Move lv s { s with mode := m, uptime := u, identity := d, store := x }

/-- A chain of moves. -/
inductive Moves (lv : Nat) (s : State) : State → Prop where
  | refl : Moves lv s s
  | tail {t u : State} : Moves lv s t → Move lv t u → Moves lv s u

theorem Move.mono {lv lw : Nat} (hk : lv ≤ lw) {s t : State} (h : Move lv s t) : Move lw s t := by
  cases h with
  | loops v => exact .loops s v
  | units v => exact .units s v
  | coils v => exact .coils s v
  | overrides v => exact .overrides s v
  | frost v => exact .frost s v
  | summaries v => exact .summaries s v
  | inputs v => exact .inputs s v
  | rosters v => exact .rosters s v
  | coilRecs v => exact .coilRecs s v
  | plan l p h => exact .plan s l p h
  | offer x b => exact .offer s x b
  | raise x => exact .raise s x
  | ask n v u => exact .ask s n v u
  | order p q hp hq => exact .order s p q hp hq
  | nodes v h => exact .nodes s v (by omega)
  | bus b h hq => exact .bus s b (by omega) hq
  | link x h => exact .link s x (by omega)
  | cfg g h => exact .cfg s g (by omega)
  | trace t h ht => exact .trace s t (by omega) ht
  | notice n h hn => exact .notice s n (by omega) hn
  | plans v h hp => exact .plans s v (by omega) hp
  | part m u d x h => exact .part s m u d x (by omega)

theorem Moves.mono {lv lw : Nat} (hk : lv ≤ lw) {s t : State} (h : Moves lv s t) : Moves lw s t := by
  induction h with
  | refl => exact .refl
  | tail _ m ih => exact ih.tail (m.mono hk)

theorem Moves.trans {lv : Nat} {s t u : State} (h : Moves lv s t) (k : Moves lv t u) : Moves lv s u := by
  induction k with
  | refl => exact h
  | tail _ m ih => exact ih.tail m

/-! ## The updates -/

section
variable {lv : Nat} {s0 s : State}

@[simp] theorem moves_refl : Moves lv s s := .refl

@[simp] theorem moves_ite {c : Prop} [Decidable c] {a b : State} (ha : Moves lv s0 a) (hb : Moves lv s0 b) :
    Moves lv s0 (if c then a else b) := by split <;> assumption

@[simp] theorem moves_modLoop (h : Moves lv s0 s) (l : LoopId) (f : LoopSt → LoopSt) : Moves lv s0 (s.modLoop l f) :=
  h.tail (.loops s _)
@[simp] theorem moves_modUnit (h : Moves lv s0 s) (l : LoopId) (f : LoopCoils → LoopCoils) :
    Moves lv s0 (s.modUnit l f) := h.tail (.units s _)
@[simp] theorem moves_modCoil (h : Moves lv s0 s) (c : CoilId) (f : CoilSt → CoilSt) : Moves lv s0 (s.modCoil c f) :=
  h.tail (.coils s _)
@[simp] theorem moves_modFrost (h : Moves lv s0 s) (c : CoilId) (f : FrostRec → FrostRec) :
    Moves lv s0 (s.modFrost c f) := h.tail (.frost s _)
@[simp] theorem moves_setOverride (h : Moves lv s0 s) (c : CoilId) (o : Option Override) :
    Moves lv s0 (s.setOverride c o) := h.tail (.overrides s _)
@[simp] theorem moves_setSummary (h : Moves lv s0 s) (l : LoopId) (x : Summary) : Moves lv s0 (s.setSummary l x) :=
  h.tail (.summaries s _)
@[simp] theorem moves_modInputs (h : Moves lv s0 s) (f : Inputs → Inputs) : Moves lv s0 (s.modInputs f) :=
  h.tail (.inputs s _)
@[simp] theorem moves_modChan (h : Moves lv s0 s) (p : ChanId) (f : Chan → Chan) : Moves lv s0 (s.modChan p f) :=
  moves_modInputs h _
@[simp] theorem moves_setRoster (h : Moves lv s0 s) (l : LoopId) (r : List CoilId) : Moves lv s0 (s.setRoster l r) :=
  h.tail (.rosters s _)
@[simp] theorem moves_modCoilRec (h : Moves lv s0 s) (c : CoilId) (f : CoilRec → CoilRec) :
    Moves lv s0 (s.modCoilRec c f) := h.tail (.coilRecs s _)
theorem moves_modPlan (h : Moves lv s0 s) (l : LoopId) (f : Plan → Plan)
    (hf : PlanLaw s.plans[l] → PlanLaw (f s.plans[l])) : Moves lv s0 (s.modPlan l f) := h.tail (.plan s l _ hf)
@[simp] theorem moves_offer (h : Moves lv s0 s) (x : Subject) (b : TraceBody) : Moves lv s0 (s.offer x b) :=
  h.tail (.offer s x b)
@[simp] theorem moves_event (h : Moves lv s0 s) (x : Subject) (e : EventCode) (d : List Field) :
    Moves lv s0 (s.event x e d) := h.tail (.offer s x _)
@[simp] theorem moves_raise (h : Moves lv s0 s) (x : Source) : Moves lv s0 (s.raise x) := h.tail (.raise s x)
@[simp] theorem moves_busRequest (h : Moves lv s0 s) (n : NodeId) (v : Int) (u : Urgency) :
    Moves lv s0 (s.busRequest n v u) := h.tail (.ask s n v u)
@[simp] theorem moves_inCoilOrder (h : Moves lv s0 s) (b : Bus) : Moves lv s0 (s.inCoilOrder b) :=
  h.tail (.order s _ _ (orderJoined_perm _ _ _) (orderJoined_perm _ _ _))
@[simp] theorem moves_oneEvent (h : Moves lv s0 s) (f : State → State) (hf : ∀ t, Moves lv s0 t → Moves lv s0 (f t)) :
    Moves lv s0 (s.oneEvent f) := moves_inCoilOrder (hf s h) _
@[simp] theorem moves_requestIf (h : Moves lv s0 s) (n : Option NodeId) (v : Int) (u : Urgency) :
    Moves lv s0 (s.requestIf n v u) := by
  unfold State.requestIf
  split <;> simp [h]
@[simp] theorem moves_modNode (h : Moves (lv + 1) s0 s) (n : NodeId) (f : NodeEntry → NodeEntry) :
    Moves (lv + 1) s0 (s.modNode n f) := h.tail (.nodes s _ (by omega))
@[simp] theorem moves_modShadow (h : Moves (lv + 1) s0 s) (n : NodeId) (f : Shadow → Shadow) :
    Moves (lv + 1) s0 (s.modShadow n f) := h.tail (.nodes s _ (by omega))
theorem moves_modBus (h : Moves (lv + 1) s0 s) (f : Bus → Bus) (hq : QueueLaw s.bus → QueueLaw (f s.bus)) :
    Moves (lv + 1) s0 (s.modBus f) := h.tail (.bus s _ (by omega) hq)
@[simp] theorem moves_modBus_quiet (h : Moves (lv + 1) s0 s) (f : Bus → Bus) (hu : (f s.bus).urgent = s.bus.urgent)
    (hr : (f s.bus).routine = s.bus.routine) : Moves (lv + 1) s0 (s.modBus f) :=
  moves_modBus h f fun hq => by unfold QueueLaw at *; rwa [hu, hr]
@[simp] theorem moves_modLink (h : Moves (lv + 1) s0 s) (f : Link → Link) : Moves (lv + 1) s0 (s.modLink f) :=
  h.tail (.link s _ (by omega))
@[simp] theorem moves_place (h : Moves (lv + 1) s0 s) (p : Placement) : Moves (lv + 1) s0 (s.place p) :=
  h.tail (.link s _ (by omega))
@[simp] theorem moves_modCfg (h : Moves (lv + 2) s0 s) (f : Settings → Settings) : Moves (lv + 2) s0 (s.modCfg f) :=
  h.tail (.cfg s _ (by omega))

@[simp] theorem moves_forEach {α : Type} (h : Moves lv s0 s) (xs : List α) (f : α → State → State)
    (hf : ∀ x t, Moves lv s0 t → Moves lv s0 (f x t)) : Moves lv s0 (s.forEach xs f) := by
  unfold State.forEach
  induction xs generalizing s with
  | nil => exact h
  | cons x xs ih => exact ih (hf x s h)

end

end Sys2Proof.Machine
end

