-- ==== Sys2Proof/Laws/MovesCoil.lean ====
section
/-! SUPPORT. The coil unit and the regulator act by moves. -/

namespace Sys2Proof.Machine

set_option linter.unusedTactic false
set_option linter.unusedSimpArgs false
set_option linter.unreachableTactic false

section
variable {lv : Nat} {s0 s : State}

@[simp] theorem moves_setBypass (h : Moves lv s0 s) (l : LoopId) (pos : Nat) (u : Urgency) :
    Moves lv s0 (s.setBypass l pos u) := by
  unfold State.setBypass
  try dsimp only
  repeat' split
  all_goals first | exact h | simp (contextual := true) (maxDischargeDepth := 40) [h]
@[simp] theorem moves_setRun (h : Moves lv s0 s) (l : LoopId) (p : PumpId) (run : Bool) (u : Urgency) :
    Moves lv s0 (s.setRun l p run u) := by
  unfold State.setRun
  try dsimp only
  repeat' split
  all_goals first | exact h | simp (contextual := true) (maxDischargeDepth := 40) [h]
@[simp] theorem moves_restartHoldoff (h : Moves lv s0 s) (l : LoopId) :
    Moves lv s0 (s.restartHoldoff l) := by
  unfold State.restartHoldoff
  try dsimp only
  repeat' split
  all_goals first | exact h | simp (contextual := true) (maxDischargeDepth := 40) [h]
@[simp] theorem moves_resummarise (h : Moves lv s0 s) (l : LoopId) :
    Moves lv s0 (s.resummarise l) := by
  unfold State.resummarise
  try dsimp only
  repeat' split
  all_goals first | exact h | simp (contextual := true) (maxDischargeDepth := 40) [h]
@[simp] theorem moves_resummariseCoil (h : Moves lv s0 s) (c : CoilId) :
    Moves lv s0 (s.resummariseCoil c) := by
  unfold State.resummariseCoil
  try dsimp only
  repeat' split
  all_goals first | exact h | simp (contextual := true) (maxDischargeDepth := 40) [h]
@[simp] theorem moves_setFan (h : Moves lv s0 s) (c : CoilId) (v : Int) (u : Urgency) :
    Moves lv s0 (s.setFan c v u) := by
  unfold State.setFan
  try dsimp only
  repeat' split
  all_goals first | exact h | simp (contextual := true) (maxDischargeDepth := 40) [h]
@[simp] theorem moves_refan (h : Moves lv s0 s) (c : CoilId) (u : Urgency) :
    Moves lv s0 (s.refan c u) := by
  unfold State.refan
  try dsimp only
  repeat' split
  all_goals first | exact h | simp (contextual := true) (maxDischargeDepth := 40) [h]
@[simp] theorem moves_refanLoop (h : Moves lv s0 s) (l : LoopId) (u : Urgency) :
    Moves lv s0 (s.refanLoop l u) := by
  unfold State.refanLoop
  try dsimp only
  repeat' split
  all_goals first | exact h | simp (contextual := true) (maxDischargeDepth := 40) [h]
@[simp] theorem moves_setValve (h : Moves lv s0 s) (c : CoilId) (pos : Nat) (u : Urgency) :
    Moves lv s0 (s.setValve c pos u) := by
  unfold State.setValve
  try dsimp only
  repeat' split
  all_goals first | exact h | simp (contextual := true) (maxDischargeDepth := 40) [h]
@[simp] theorem moves_leaveKwQueue (h : Moves lv s0 s) (l : LoopId) (c : CoilId) :
    Moves lv s0 (s.leaveKwQueue l c) := by
  unfold State.leaveKwQueue
  try dsimp only
  repeat' split
  all_goals first | exact h | simp (contextual := true) (maxDischargeDepth := 40) [h]
@[simp] theorem moves_leaveShedQueue (h : Moves lv s0 s) (l : LoopId) (c : CoilId) :
    Moves lv s0 (s.leaveShedQueue l c) := by
  unfold State.leaveShedQueue
  try dsimp only
  repeat' split
  all_goals first | exact h | simp (contextual := true) (maxDischargeDepth := 40) [h]
@[simp] theorem moves_freePermit (h : Moves lv s0 s) (l : LoopId) (c : CoilId) :
    Moves lv s0 (s.freePermit l c) := by
  unfold State.freePermit
  try dsimp only
  repeat' split
  all_goals first | exact h | simp (contextual := true) (maxDischargeDepth := 40) [h]
@[simp] theorem moves_uncount (h : Moves lv s0 s) (l : LoopId) (was : Service) :
    Moves lv s0 (s.uncount l was) := by
  unfold State.uncount
  try dsimp only
  repeat' split
  all_goals first | exact h | simp (contextual := true) (maxDischargeDepth := 40) [h]
@[simp] theorem moves_noteServing (h : Moves lv s0 s) (l : LoopId) (before : Nat) :
    Moves lv s0 (s.noteServing l before) := by
  unfold State.noteServing
  try dsimp only
  repeat' split
  all_goals first | exact h | simp (contextual := true) (maxDischargeDepth := 40) [h]
@[simp] theorem moves_startScheduled (h : Moves lv s0 s) (l : LoopId) :
    Moves lv s0 (s.startScheduled l) := by
  unfold State.startScheduled
  try dsimp only
  repeat' split
  all_goals first | exact h | simp (contextual := true) (maxDischargeDepth := 40) [h]
@[simp] theorem moves_serveKw (h : Moves lv s0 s) (l : LoopId) :
    Moves lv s0 (s.serveKw l) := by
  unfold State.serveKw
  refine moves_oneEvent h _ fun s h => ?_
  try dsimp only
  repeat' split
  all_goals first | exact h | simp (contextual := true) (maxDischargeDepth := 40) [h]
@[simp] theorem moves_takeShedHead (h : Moves lv s0 s) (l : LoopId) :
    Moves lv s0 (s.takeShedHead l) := by
  unfold State.takeShedHead
  try dsimp only
  repeat' split
  all_goals first | exact h | simp (contextual := true) (maxDischargeDepth := 40) [h]
@[simp] theorem moves_serveShed (h : Moves lv s0 s) (l : LoopId) :
    Moves lv s0 (s.serveShed l) := by
  unfold State.serveShed
  try dsimp only
  repeat' split
  all_goals first | exact h | simp (contextual := true) (maxDischargeDepth := 40) [h]
@[simp] theorem moves_rotateRoster (h : Moves lv s0 s) (l : LoopId) :
    Moves lv s0 (s.rotateRoster l) := by
  unfold State.rotateRoster
  try dsimp only
  repeat' split
  all_goals first | exact h | simp (contextual := true) (maxDischargeDepth := 40) [h]
@[simp] theorem moves_autoRotate (h : Moves lv s0 s) (l : LoopId) :
    Moves lv s0 (s.autoRotate l) := by
  unfold State.autoRotate
  try dsimp only
  repeat' split
  all_goals first | exact h | simp (contextual := true) (maxDischargeDepth := 40) [h]
@[simp] theorem moves_deferredRotation (h : Moves lv s0 s) (l : LoopId) :
    Moves lv s0 (s.deferredRotation l) := by
  unfold State.deferredRotation
  try dsimp only
  repeat' split
  all_goals first | exact h | simp (contextual := true) (maxDischargeDepth := 40) [h]
@[simp] theorem moves_stagingEnded (h : Moves lv s0 s) (l : LoopId) :
    Moves lv s0 (s.stagingEnded l) := by
  unfold State.stagingEnded
  try dsimp only
  repeat' split
  all_goals first | exact h | simp (contextual := true) (maxDischargeDepth := 40) [h]
@[simp] theorem moves_toIsolated (h : Moves lv s0 s) (c : CoilId) (l : LoopId) :
    Moves lv s0 (s.toIsolated c l) := by
  unfold State.toIsolated
  try dsimp only
  repeat' split
  all_goals first | exact h | simp (contextual := true) (maxDischargeDepth := 40) [h]
@[simp] theorem moves_watchRequest (h : Moves lv s0 s) (c : CoilId) (l : LoopId) :
    Moves lv s0 (s.watchRequest c l) := by
  unfold State.watchRequest
  try dsimp only
  repeat' split
  all_goals first | exact h | simp (contextual := true) (maxDischargeDepth := 40) [h]
@[simp] theorem moves_tripRequest (h : Moves lv s0 s) (c : CoilId) (l : LoopId) :
    Moves lv s0 (s.tripRequest c l) := by
  unfold State.tripRequest
  try dsimp only
  repeat' split
  all_goals first | exact h | simp (contextual := true) (maxDischargeDepth := 40) [h]
@[simp] theorem moves_emergency (h : Moves lv s0 s) (c : CoilId) (l : LoopId) :
    Moves lv s0 (s.emergency c l) := by
  unfold State.emergency
  try dsimp only
  repeat' split
  all_goals first | exact h | simp (contextual := true) (maxDischargeDepth := 40) [h]
@[simp] theorem moves_endCycle (h : Moves lv s0 s) (c : CoilId) (l : LoopId) (u : Urgency) :
    Moves lv s0 (s.endCycle c l u) := by
  unfold State.endCycle
  try dsimp only
  repeat' split
  all_goals first | exact h | simp (contextual := true) (maxDischargeDepth := 40) [h]
@[simp] theorem moves_kwTimerExpired (h : Moves lv s0 s) (c : CoilId) (l : LoopId) :
    Moves lv s0 (s.kwTimerExpired c l) := by
  unfold State.kwTimerExpired
  try dsimp only
  repeat' split
  all_goals first | exact h | simp (contextual := true) (maxDischargeDepth := 40) [h]
@[simp] theorem moves_kwDwellExpired (h : Moves lv s0 s) (c : CoilId) (l : LoopId) :
    Moves lv s0 (s.kwDwellExpired c l) := by
  unfold State.kwDwellExpired
  refine moves_oneEvent h _ fun s h => ?_
  try dsimp only
  repeat' split
  all_goals first | exact h | simp (contextual := true) (maxDischargeDepth := 40) [h]
@[simp] theorem moves_shedTrigger (h : Moves lv s0 s) (c : CoilId) :
    Moves lv s0 (s.shedTrigger c) := by
  unfold State.shedTrigger
  try dsimp only
  repeat' split
  all_goals first | exact h | simp (contextual := true) (maxDischargeDepth := 40) [h]
@[simp] theorem moves_snowTrigger (h : Moves lv s0 s) :
    Moves lv s0 (s.snowTrigger) := by
  unfold State.snowTrigger
  refine moves_oneEvent h _ fun s h => ?_
  try dsimp only
  repeat' split
  all_goals first | exact h | simp (contextual := true) (maxDischargeDepth := 40) [h]
@[simp] theorem moves_leaveShedding (h : Moves lv s0 s) (c : CoilId) (l : LoopId) (cause : String) (u : Urgency) :
    Moves lv s0 (s.leaveShedding c l cause u) := by
  unfold State.leaveShedding
  try dsimp only
  repeat' split
  all_goals first | exact h | simp (contextual := true) (maxDischargeDepth := 40) [h]
@[simp] theorem moves_leaveSheddingIf (h : Moves lv s0 s) (c : CoilId) (cause : String) (u : Urgency) :
    Moves lv s0 (s.leaveSheddingIf c cause u) := by
  unfold State.leaveSheddingIf
  try dsimp only
  repeat' split
  all_goals first | exact h | simp (contextual := true) (maxDischargeDepth := 40) [h]
@[simp] theorem moves_endShedding (h : Moves lv s0 s) (c : CoilId) (l : LoopId) (cause : String) (u : Urgency) :
    Moves lv s0 (s.endShedding c l cause u) := by
  unfold State.endShedding
  refine moves_oneEvent h _ fun s h => ?_
  try dsimp only
  repeat' split
  all_goals first | exact h | simp (contextual := true) (maxDischargeDepth := 40) [h]
@[simp] theorem moves_endSheddingIf (h : Moves lv s0 s) (c : CoilId) (cause : String) (u : Urgency) :
    Moves lv s0 (s.endSheddingIf c cause u) := by
  unfold State.endSheddingIf
  try dsimp only
  repeat' split
  all_goals first | exact h | simp (contextual := true) (maxDischargeDepth := 40) [h]
@[simp] theorem moves_startAdmission (h : Moves lv s0 s) (c : CoilId) (l : LoopId) :
    Moves lv s0 (s.startAdmission c l) := by
  unfold State.startAdmission
  refine moves_oneEvent h _ fun s h => ?_
  try dsimp only
  repeat' split
  all_goals first | exact h | simp (contextual := true) (maxDischargeDepth := 40) [h]
@[simp] theorem moves_startDwell (h : Moves lv s0 s) (c : CoilId) (l : LoopId) (k : Nat) (held : Bool) :
    Moves lv s0 (s.startDwell c l k held) := by
  unfold State.startDwell
  try dsimp only
  repeat' split
  all_goals first | exact h | simp (contextual := true) (maxDischargeDepth := 40) [h]
@[simp] theorem moves_completeAdmission (h : Moves lv s0 s) (c : CoilId) (l : LoopId) :
    Moves lv s0 (s.completeAdmission c l) := by
  unfold State.completeAdmission
  try dsimp only
  repeat' split
  all_goals first | exact h | simp (contextual := true) (maxDischargeDepth := 40) [h]
@[simp] theorem moves_traceAbort (h : Moves lv s0 s) (c : CoilId) (cause : String) (k : Option Nat) :
    Moves lv s0 (s.traceAbort c cause k) := by
  unfold State.traceAbort
  try dsimp only
  repeat' split
  all_goals first | exact h | simp (contextual := true) (maxDischargeDepth := 40) [h]
@[simp] theorem moves_abortAdmission (h : Moves lv s0 s) (c : CoilId) (l : LoopId) (cause : String) (k : Option Nat) (u : Urgency) :
    Moves lv s0 (s.abortAdmission c l cause k u) := by
  unfold State.abortAdmission
  try dsimp only
  repeat' split
  all_goals first | exact h | simp (contextual := true) (maxDischargeDepth := 40) [h]
@[simp] theorem moves_admissionTimedOut (h : Moves lv s0 s) (c : CoilId) (l : LoopId) :
    Moves lv s0 (s.admissionTimedOut c l) := by
  unfold State.admissionTimedOut
  refine moves_oneEvent h _ fun s h => ?_
  simp (maxDischargeDepth := 40) [h]
@[simp] theorem moves_nextStep (h : Moves lv s0 s) (c : CoilId) :
    Moves lv s0 (s.nextStep c) := by
  unfold State.nextStep
  try dsimp only
  repeat' split
  all_goals first | exact h | simp (contextual := true) (maxDischargeDepth := 40) [h]
@[simp] theorem moves_evalHoldOf (h : Moves lv s0 s) (l : LoopId) (c : CoilId) :
    Moves lv s0 (s.evalHoldOf l c) := by
  unfold State.evalHoldOf
  try dsimp only
  repeat' split
  all_goals first | exact h | simp (contextual := true) (maxDischargeDepth := 40) [h]
@[simp] theorem moves_evalHold (h : Moves lv s0 s) (l : LoopId) :
    Moves lv s0 (s.evalHold l) := by
  unfold State.evalHold
  try dsimp only
  repeat' split
  all_goals first | exact h | simp (contextual := true) (maxDischargeDepth := 40) [h]
@[simp] theorem moves_supplyArrived (h : Moves lv s0 s) (l : LoopId) (v : Temp) :
    Moves lv s0 (s.supplyArrived l v) := by
  unfold State.supplyArrived
  try dsimp only
  repeat' split
  all_goals first | exact h | simp (contextual := true) (maxDischargeDepth := 40) [h]
@[simp] theorem moves_beginRetire (h : Moves lv s0 s) (c : CoilId) (l : LoopId) (outFlag : Bool) :
    Moves lv s0 (s.beginRetire c l outFlag) := by
  unfold State.beginRetire
  try dsimp only
  repeat' split
  all_goals first | exact h | simp (contextual := true) (maxDischargeDepth := 40) [h]
@[simp] theorem moves_tellLast (h : Moves lv s0 s) (l : LoopId) (leaving : Nat) :
    Moves lv s0 (s.tellLast l leaving) := by
  unfold State.tellLast
  try dsimp only
  repeat' split
  all_goals first | exact h | simp (contextual := true) (maxDischargeDepth := 40) [h]
@[simp] theorem moves_startRetire (h : Moves lv s0 s) (c : CoilId) (l : LoopId) (outFlag : Bool) :
    Moves lv s0 (s.startRetire c l outFlag) := by
  unfold State.startRetire
  refine moves_oneEvent h _ fun s h => ?_
  try dsimp only
  repeat' split
  all_goals first | exact h | simp (contextual := true) (maxDischargeDepth := 40) [h]
@[simp] theorem moves_toClosing (h : Moves lv s0 s) (c : CoilId) (outFlag : Bool) :
    Moves lv s0 (s.toClosing c outFlag) := by
  unfold State.toClosing
  try dsimp only
  repeat' split
  all_goals first | exact h | simp (contextual := true) (maxDischargeDepth := 40) [h]
@[simp] theorem moves_rundownExpired (h : Moves lv s0 s) (c : CoilId) (l : LoopId) :
    Moves lv s0 (s.rundownExpired c l) := by
  unfold State.rundownExpired
  try dsimp only
  repeat' split
  all_goals first | exact h | simp (contextual := true) (maxDischargeDepth := 40) [h]
@[simp] theorem moves_releaseRundown (h : Moves lv s0 s) (c : CoilId) :
    Moves lv s0 (s.releaseRundown c) := by
  unfold State.releaseRundown
  try dsimp only
  repeat' split
  all_goals first | exact h | simp (contextual := true) (maxDischargeDepth := 40) [h]
@[simp] theorem moves_completeRetire (h : Moves lv s0 s) (c : CoilId) (l : LoopId) (outFlag : Bool) :
    Moves lv s0 (s.completeRetire c l outFlag) := by
  unfold State.completeRetire
  try dsimp only
  repeat' split
  all_goals first | exact h | simp (contextual := true) (maxDischargeDepth := 40) [h]
@[simp] theorem moves_valveArrived (h : Moves lv s0 s) (c : CoilId) (v : Int) :
    Moves lv s0 (s.valveArrived c v) := by
  unfold State.valveArrived
  try dsimp only
  repeat' split
  all_goals first | exact h | simp (contextual := true) (maxDischargeDepth := 40) [h]
@[simp] theorem moves_coilFault (h : Moves lv s0 s) (c : CoilId) (cause : FaultCause) :
    Moves lv s0 (s.coilFault c cause) := by
  unfold State.coilFault
  refine moves_oneEvent h _ fun s h => ?_
  try dsimp only
  repeat' split
  all_goals first | exact h | simp (contextual := true) (maxDischargeDepth := 40) [h]
@[simp] theorem moves_strokeExpired (h : Moves lv s0 s) (c : CoilId) :
    Moves lv s0 (s.strokeExpired c) := by
  unfold State.strokeExpired
  try dsimp only
  repeat' split
  all_goals first | exact h | simp (contextual := true) (maxDischargeDepth := 40) [h]
@[simp] theorem moves_frostToCoil (h : Moves lv s0 s) (c : CoilId) (f : FrostState) :
    Moves lv s0 (s.frostToCoil c f) := by
  unfold State.frostToCoil
  try dsimp only
  repeat' split
  all_goals first | exact h | simp (contextual := true) (maxDischargeDepth := 40) [h]
@[simp] theorem moves_stopShedding (h : Moves lv s0 s) (l : LoopId) (cause : String) (u : Urgency) :
    Moves lv s0 (s.stopShedding l cause u) := by
  unfold State.stopShedding
  try dsimp only
  repeat' split
  all_goals first | exact h | simp (contextual := true) (maxDischargeDepth := 40) [h]
@[simp] theorem moves_coilsOnFailover (h : Moves lv s0 s) (l : LoopId) :
    Moves lv s0 (s.coilsOnFailover l) := by
  unfold State.coilsOnFailover
  refine moves_oneEvent h _ fun s h => ?_
  try dsimp only
  repeat' split
  all_goals first | exact h | simp (contextual := true) (maxDischargeDepth := 40) [h]
@[simp] theorem moves_coilOnFlowloss (h : Moves lv s0 s) (l : LoopId) (c : CoilId) :
    Moves lv s0 (s.coilOnFlowloss l c) := by
  unfold State.coilOnFlowloss
  try dsimp only
  repeat' split
  all_goals first | exact h | simp (contextual := true) (maxDischargeDepth := 40) [h]
@[simp] theorem moves_coilsOnFlowloss (h : Moves lv s0 s) (l : LoopId) :
    Moves lv s0 (s.coilsOnFlowloss l) := by
  unfold State.coilsOnFlowloss
  try dsimp only
  repeat' split
  all_goals first | exact h | simp (contextual := true) (maxDischargeDepth := 40) [h]
@[simp] theorem moves_coilOnRunning (h : Moves lv s0 s) (c : CoilId) :
    Moves lv s0 (s.coilOnRunning c) := by
  unfold State.coilOnRunning
  try dsimp only
  repeat' split
  all_goals first | exact h | simp (contextual := true) (maxDischargeDepth := 40) [h]
@[simp] theorem moves_coilsOnRunning (h : Moves lv s0 s) (l : LoopId) :
    Moves lv s0 (s.coilsOnRunning l) := by
  unfold State.coilsOnRunning
  refine moves_oneEvent h _ fun s h => ?_
  try dsimp only
  repeat' split
  all_goals first | exact h | simp (contextual := true) (maxDischargeDepth := 40) [h]
@[simp] theorem moves_faultIfGone (h : Moves lv s0 s) (c : CoilId) :
    Moves lv s0 (s.faultIfGone c) := by
  unfold State.faultIfGone
  try dsimp only
  repeat' split
  all_goals first | exact h | simp (contextual := true) (maxDischargeDepth := 40) [h]
@[simp] theorem moves_adoptCoil (h : Moves lv s0 s) (c : CoilId) (l : LoopId) :
    Moves lv s0 (s.adoptCoil c l) := by
  unfold State.adoptCoil
  try dsimp only
  repeat' split
  all_goals first | exact h | simp (contextual := true) (maxDischargeDepth := 40) [h]
@[simp] theorem moves_adopt (h : Moves lv s0 s) (l : LoopId) :
    Moves lv s0 (s.adopt l) := by
  unfold State.adopt
  try dsimp only
  repeat' split
  all_goals first | exact h | simp (contextual := true) (maxDischargeDepth := 40) [h]
@[simp] theorem moves_parkCoil (h : Moves lv s0 s) (c : CoilId) :
    Moves lv s0 (s.parkCoil c) := by
  unfold State.parkCoil
  try dsimp only
  repeat' split
  all_goals first | exact h | simp (contextual := true) (maxDischargeDepth := 40) [h]
@[simp] theorem moves_serveLoopSince (h : Moves lv s0 s) (s1 : State) (l : LoopId) :
    Moves lv s0 (s.serveLoopSince s1 l) := by
  unfold State.serveLoopSince
  try dsimp only
  repeat' split
  all_goals first | exact h | simp (contextual := true) (maxDischargeDepth := 40) [h]
@[simp] theorem moves_servedSince (h : Moves lv s0 s) (s1 : State) :
    Moves lv s0 (s.servedSince s1) := by
  unfold State.servedSince
  try dsimp only
  repeat' split
  all_goals first | exact h | simp (contextual := true) (maxDischargeDepth := 40) [h]
@[simp] theorem moves_wholeRequest (h : Moves lv s0 s) (f : State → State) (hf : ∀ t, Moves lv s0 t → Moves lv s0 (f t)) :
    Moves lv s0 (s.wholeRequest f) :=
  moves_oneEvent h _ fun t k => moves_servedSince (hf t k) t
@[simp] theorem moves_outAtOnce (h : Moves lv s0 s) (c : CoilId) (l : LoopId) (close : Bool) :
    Moves lv s0 (s.outAtOnce c l close) := by
  unfold State.outAtOnce
  try dsimp only
  repeat' split
  all_goals first | exact h | simp (contextual := true) (maxDischargeDepth := 40) [h]
@[simp] theorem moves_abortIntoOut (h : Moves lv s0 s) (c : CoilId) (l : LoopId) :
    Moves lv s0 (s.abortIntoOut c l) := by
  unfold State.abortIntoOut
  try dsimp only
  repeat' split
  all_goals first | exact h | simp (contextual := true) (maxDischargeDepth := 40) [h]
@[simp] theorem moves_coilOut (h : Moves lv s0 s) (c : CoilId) (l : LoopId) :
    Moves lv s0 (s.coilOut c l) := by
  unfold State.coilOut
  try dsimp only
  repeat' split
  all_goals first | exact h | simp (contextual := true) (maxDischargeDepth := 40) [h]
@[simp] theorem moves_resendFan (h : Moves lv s0 s) (c : CoilId) :
    Moves lv s0 (s.resendFan c) := by
  unfold State.resendFan
  try dsimp only
  repeat' split
  all_goals first | exact h | simp (contextual := true) (maxDischargeDepth := 40) [h]
@[simp] theorem moves_resendValve (h : Moves lv s0 s) (c : CoilId) :
    Moves lv s0 (s.resendValve c) := by
  unfold State.resendValve
  try dsimp only
  repeat' split
  all_goals first | exact h | simp (contextual := true) (maxDischargeDepth := 40) [h]
@[simp] theorem moves_coilIn (h : Moves lv s0 s) (c : CoilId) (l : LoopId) :
    Moves lv s0 (s.coilIn c l) := by
  unfold State.coilIn
  try dsimp only
  repeat' split
  all_goals first | exact h | simp (contextual := true) (maxDischargeDepth := 40) [h]
@[simp] theorem moves_coilCleared (h : Moves lv s0 s) (c : CoilId) :
    Moves lv s0 (s.coilCleared c) := by
  unfold State.coilCleared
  try dsimp only
  repeat' split
  all_goals first | exact h | simp (contextual := true) (maxDischargeDepth := 40) [h]
@[simp] theorem moves_keepwarmChanged (h : Moves lv s0 s) (c : CoilId) (l : LoopId) :
    Moves lv s0 (s.keepwarmChanged c l) := by
  unfold State.keepwarmChanged
  try dsimp only
  repeat' split
  all_goals first | exact h | simp (contextual := true) (maxDischargeDepth := 40) [h]
@[simp] theorem moves_putOptions (h : Moves lv s0 s) (c : CoilId) (o : CoilOptions) :
    Moves lv s0 (s.putOptions c o) := by
  unfold State.putOptions
  try dsimp only
  repeat' split
  all_goals first | exact h | simp (contextual := true) (maxDischargeDepth := 40) [h]
@[simp] theorem moves_setOptions (h : Moves lv s0 s) (c : CoilId) (o : CoilOptions) :
    Moves lv s0 (s.setOptions c o) := moves_wholeRequest h _ fun _ k => moves_putOptions k c o
@[simp] theorem moves_coilLost (h : Moves lv s0 s) (c : CoilId) (fan : Bool) :
    Moves lv s0 (s.coilLost c fan) := by
  unfold State.coilLost
  try dsimp only
  repeat' split
  all_goals first | exact h | simp (contextual := true) (maxDischargeDepth := 40) [h]
@[simp] theorem moves_coilNodeChanged (h : Moves lv s0 s) (c : CoilId) (n : NodeId) :
    Moves lv s0 (s.coilNodeChanged c n) := by
  unfold State.coilNodeChanged
  try dsimp only
  repeat' split
  all_goals first | exact h | simp (contextual := true) (maxDischargeDepth := 40) [h]
@[simp] theorem moves_coilStatusArrived (h : Moves lv s0 s) (c : CoilId) (n : NodeId) (v : Int) :
    Moves lv s0 (s.coilStatusArrived c n v) := by
  unfold State.coilStatusArrived
  try dsimp only
  repeat' split
  all_goals first | exact h | simp (contextual := true) (maxDischargeDepth := 40) [h]
@[simp] theorem moves_icingArrived (h : Moves lv s0 s) (c : CoilId) (v : Int) :
    Moves lv s0 (s.icingArrived c v) := by
  unfold State.icingArrived
  try dsimp only
  repeat' split
  all_goals first | exact h | simp (contextual := true) (maxDischargeDepth := 40) [h]

end

end Sys2Proof.Machine
end

