-- ==== Sys2Proof/Laws/MovesLoop.lean ====
section
/-! SUPPORT. The loop regulator, the frost monitor and the input unit act by moves. -/

namespace Sys2Proof.Machine

set_option linter.unusedTactic false
set_option linter.unusedSimpArgs false
set_option linter.unreachableTactic false

section
variable {lv : Nat} {s0 s : State}

@[simp] theorem moves_traceLoop (h : Moves lv s0 s) (l : LoopId) (old new : LoopState) (cause : String) :
    Moves lv s0 (s.traceLoop l old new cause) := by
  unfold State.traceLoop
  try dsimp only
  repeat' split
  all_goals first | exact h | simp (contextual := true) (maxDischargeDepth := 40) [h]
@[simp] theorem moves_setLoopState (h : Moves lv s0 s) (l : LoopId) (st : LoopState) (reason : Option FailReason) (cause : String) :
    Moves lv s0 (s.setLoopState l st reason cause) := by
  unfold State.setLoopState
  try dsimp only
  repeat' split
  all_goals first | exact h | simp (contextual := true) (maxDischargeDepth := 40) [h]
@[simp] theorem moves_loopDetail (h : Moves lv s0 s) (l : LoopId) (w : String) :
    Moves lv s0 (s.loopDetail l w) := by
  unfold State.loopDetail
  try dsimp only
  repeat' split
  all_goals first | exact h | simp (contextual := true) (maxDischargeDepth := 40) [h]
@[simp] theorem moves_tracePumpHealth (h : Moves lv s0 s) (l : LoopId) (p : PumpId) (health cause : String) :
    Moves lv s0 (s.tracePumpHealth l p health cause) := by
  unfold State.tracePumpHealth
  try dsimp only
  repeat' split
  all_goals first | exact h | simp (contextual := true) (maxDischargeDepth := 40) [h]
@[simp] theorem moves_setDuty (h : Moves lv s0 s) (l : LoopId) (p : PumpId) (cause : String) :
    Moves lv s0 (s.setDuty l p cause) := by
  unfold State.setDuty
  try dsimp only
  repeat' split
  all_goals first | exact h | simp (contextual := true) (maxDischargeDepth := 40) [h]
@[simp] theorem moves_faultPump (h : Moves lv s0 s) (l : LoopId) (p : PumpId) (cause : String) :
    Moves lv s0 (s.faultPump l p cause) := by
  unfold State.faultPump
  try dsimp only
  repeat' split
  all_goals first | exact h | simp (contextual := true) (maxDischargeDepth := 40) [h]
@[simp] theorem moves_giveFanStep (h : Moves lv s0 s) (l : LoopId) (k : Nat) (u : Urgency) :
    Moves lv s0 (s.giveFanStep l k u) := by
  unfold State.giveFanStep
  try dsimp only
  repeat' split
  all_goals first | exact h | simp (contextual := true) (maxDischargeDepth := 40) [h]
@[simp] theorem moves_startProof (h : Moves lv s0 s) (l : LoopId) :
    Moves lv s0 (s.startProof l) := by
  unfold State.startProof
  try dsimp only
  repeat' split
  all_goals first | exact h | simp (contextual := true) (maxDischargeDepth := 40) [h]
@[simp] theorem moves_enterRunning (h : Moves lv s0 s) (l : LoopId) (cause : String) :
    Moves lv s0 (s.enterRunning l cause) := by
  unfold State.enterRunning
  try dsimp only
  repeat' split
  all_goals first | exact h | simp (contextual := true) (maxDischargeDepth := 40) [h]
@[simp] theorem moves_enterFlowloss (h : Moves lv s0 s) (l : LoopId) (cause : String) :
    Moves lv s0 (s.enterFlowloss l cause) := by
  unfold State.enterFlowloss
  exact moves_coilsOnFlowloss (moves_raise (moves_modLoop (moves_giveFanStep (moves_setRun (moves_setRun
    (moves_setLoopState h l _ _ _) l _ _ _) l _ _ _) l _ _) l _) _) l
@[simp] theorem moves_failoverProved (h : Moves lv s0 s) (l : LoopId) :
    Moves lv s0 (s.failoverProved l) := by
  unfold State.failoverProved
  try dsimp only
  repeat' split
  all_goals first | exact h | simp (contextual := true) (maxDischargeDepth := 40) [h]
@[simp] theorem moves_evalProof (h : Moves lv s0 s) (l : LoopId) :
    Moves lv s0 (s.evalProof l) := by
  unfold State.evalProof
  try dsimp only
  repeat' split
  all_goals first | exact h | simp (contextual := true) (maxDischargeDepth := 40) [h]
@[simp] theorem moves_enterFailoverFault (h : Moves lv s0 s) (l : LoopId) :
    Moves lv s0 (s.enterFailoverFault l) := by
  unfold State.enterFailoverFault
  try dsimp only
  repeat' split
  all_goals first | exact h | simp (contextual := true) (maxDischargeDepth := 40) [h]
@[simp] theorem moves_enterFailoverPlanned (h : Moves lv s0 s) (l : LoopId) :
    Moves lv s0 (s.enterFailoverPlanned l) := by
  unfold State.enterFailoverPlanned
  try dsimp only
  repeat' split
  all_goals first | exact h | simp (contextual := true) (maxDischargeDepth := 40) [h]
@[simp] theorem moves_dutyFailed (h : Moves lv s0 s) (l : LoopId) :
    Moves lv s0 (s.dutyFailed l) := by
  unfold State.dutyFailed
  exact moves_ite (moves_enterFlowloss h _ _) (moves_enterFailoverFault h _)
@[simp] theorem moves_candidateFailed (h : Moves lv s0 s) (l : LoopId) (cause : String) :
    Moves lv s0 (s.candidateFailed l cause) := by
  unfold State.candidateFailed
  dsimp only
  split
  · exact moves_enterRunning (moves_setRun (moves_faultPump h _ _ _) _ _ _ _) _ _
  · exact moves_enterFlowloss (moves_faultPump h _ _ _) _ _
@[simp] theorem moves_plannedDutyFailed (h : Moves lv s0 s) (l : LoopId) (cause : String) :
    Moves lv s0 (s.plannedDutyFailed l cause) := by
  unfold State.plannedDutyFailed
  exact moves_setRun (moves_setRun (moves_modLoop (moves_faultPump h _ _ _) _ _) _ _ _ _) _ _ _ _
@[simp] theorem moves_pumpFault (h : Moves lv s0 s) (l : LoopId) (p : PumpId) (cause : String) :
    Moves lv s0 (s.pumpFault l p cause) := by
  unfold State.pumpFault
  dsimp only
  split
  · exact h
  · exact moves_ite (moves_dutyFailed (moves_faultPump h _ _ _) _) (moves_faultPump h _ _ _)
  · exact moves_ite (moves_dutyFailed (moves_faultPump h _ _ _) _) (moves_faultPump h _ _ _)
  · refine moves_ite ?_ (moves_candidateFailed h _ _)
    split
    · exact moves_plannedDutyFailed h _ _
    · exact h
  · exact moves_faultPump h _ _ _
@[simp] theorem moves_startLoop (h : Moves lv s0 s) (l : LoopId) (cause : String) :
    Moves lv s0 (s.startLoop l cause) := by
  unfold State.startLoop
  dsimp only
  refine moves_modLoop (moves_giveFanStep (moves_setBypass (moves_setRun (moves_setRun ?_ _ _ _ _) _ _ _ _) _ _ _) _ _ _) _ _
  exact moves_ite (moves_setDuty (moves_setLoopState h _ _ _ _) _ _ _) (moves_setLoopState h _ _ _ _)
@[simp] theorem moves_startRotation (h : Moves lv s0 s) (l : LoopId) :
    Moves lv s0 (s.startRotation l) := by
  unfold State.startRotation
  try dsimp only
  repeat' split
  all_goals first | exact h | simp (contextual := true) (maxDischargeDepth := 40) [h]
@[simp] theorem moves_enterStarting (h : Moves lv s0 s) (l : LoopId) (cause : String) :
    Moves lv s0 (s.enterStarting l cause) := by
  unfold State.enterStarting
  exact moves_evalProof (moves_adopt (moves_startRotation (moves_startLoop h _ _) _) _) _
@[simp] theorem moves_lowflowEvent (h : Moves lv s0 s) (l : LoopId) :
    Moves lv s0 (s.lowflowEvent l) := by
  unfold State.lowflowEvent
  try dsimp only
  repeat' split
  all_goals first | exact h | simp (contextual := true) (maxDischargeDepth := 40) [h]
@[simp] theorem moves_flowEvent (h : Moves lv s0 s) (l : LoopId) :
    Moves lv s0 (s.flowEvent l) := by
  unfold State.flowEvent
  try dsimp only
  repeat' split
  all_goals first | exact h | simp (contextual := true) (maxDischargeDepth := 40) [h]
@[simp] theorem moves_pumpStatusArrived (h : Moves lv s0 s) (l : LoopId) (p : PumpId) (v : Int) :
    Moves lv s0 (s.pumpStatusArrived l p v) := by
  unfold State.pumpStatusArrived
  try dsimp only
  repeat' split
  all_goals first | exact h | simp (contextual := true) (maxDischargeDepth := 40) [h]
@[simp] theorem moves_pumpFreshness (h : Moves lv s0 s) (l : LoopId) :
    Moves lv s0 (s.pumpFreshness l) := by
  unfold State.pumpFreshness
  try dsimp only
  repeat' split
  all_goals first | exact h | simp (contextual := true) (maxDischargeDepth := 40) [h]
@[simp] theorem moves_proofExpired (h : Moves lv s0 s) (l : LoopId) :
    Moves lv s0 (s.proofExpired l) := by
  unfold State.proofExpired
  try dsimp only
  repeat' split
  all_goals first | exact h | simp (contextual := true) (maxDischargeDepth := 40) [h]
@[simp] theorem moves_soundPump (h : Moves lv s0 s) (l : LoopId) (p : PumpId) (cause : String) :
    Moves lv s0 (s.soundPump l p cause) := by
  unfold State.soundPump
  try dsimp only
  repeat' split
  all_goals first | exact h | simp (contextual := true) (maxDischargeDepth := 40) [h]
@[simp] theorem moves_takeRecovered (h : Moves lv s0 s) (l : LoopId) (p : PumpId) :
    Moves lv s0 (s.takeRecovered l p) := by
  unfold State.takeRecovered
  try dsimp only
  repeat' split
  all_goals first | exact h | simp (contextual := true) (maxDischargeDepth := 40) [h]
@[simp] theorem moves_flowlossEnded (h : Moves lv s0 s) (l : LoopId) :
    Moves lv s0 (s.flowlossEnded l) := by
  unfold State.flowlossEnded
  simp (maxDischargeDepth := 40) [h]
@[simp] theorem moves_lowflowExpired (h : Moves lv s0 s) (l : LoopId) :
    Moves lv s0 (s.lowflowExpired l) := by
  unfold State.lowflowExpired
  try dsimp only
  repeat' split
  all_goals first | exact h | simp (contextual := true) (maxDischargeDepth := 40) [h]
@[simp] theorem moves_sampleTick (h : Moves lv s0 s) (l : LoopId) :
    Moves lv s0 (s.sampleTick l) := by
  unfold State.sampleTick
  try dsimp only
  repeat' split
  all_goals first | exact h | simp (contextual := true) (maxDischargeDepth := 40) [h]
@[simp] theorem moves_blindTick (h : Moves lv s0 s) (l : LoopId) :
    Moves lv s0 (s.blindTick l) := by
  unfold State.blindTick
  try dsimp only
  repeat' split
  all_goals first | exact h | simp (contextual := true) (maxDischargeDepth := 40) [h]
@[simp] theorem moves_sighted (h : Moves lv s0 s) (l : LoopId) :
    Moves lv s0 (s.sighted l) := by
  unfold State.sighted
  try dsimp only
  repeat' split
  all_goals first | exact h | simp (contextual := true) (maxDischargeDepth := 40) [h]
@[simp] theorem moves_coldStep (h : Moves lv s0 s) (l : LoopId) (supply : Temp) :
    Moves lv s0 (s.coldStep l supply) := by
  unfold State.coldStep
  try dsimp only
  repeat' split
  all_goals first | exact h | simp (contextual := true) (maxDischargeDepth := 40) [h]
@[simp] theorem moves_ceilingStep (h : Moves lv s0 s) (l : LoopId) :
    Moves lv s0 (s.ceilingStep l) := by
  unfold State.ceilingStep
  try dsimp only
  repeat' split
  all_goals first | exact h | simp (contextual := true) (maxDischargeDepth := 40) [h]
@[simp] theorem moves_upRequest (h : Moves lv s0 s) (l : LoopId) : Moves lv s0 (s.upRequest l).1 := by
  unfold State.upRequest
  repeat' split
  all_goals simp [h]
@[simp] theorem moves_downRequest (h : Moves lv s0 s) (l : LoopId) : Moves lv s0 (s.downRequest l).1 := by
  unfold State.downRequest
  repeat' split
  all_goals simp [h]
theorem moves_upRequest_eq (h : Moves lv s0 s) {l : LoopId} {t : State} {b : Bool} (e : s.upRequest l = (t, b)) :
    Moves lv s0 t := by
  have k := moves_upRequest h l
  rwa [e] at k
theorem moves_downRequest_eq (h : Moves lv s0 s) {l : LoopId} {t : State} {b : Bool} (e : s.downRequest l = (t, b)) :
    Moves lv s0 t := by
  have k := moves_downRequest h l
  rwa [e] at k
theorem moves_countStep (h : Moves lv s0 s) {l : LoopId} {t : State} (e : s.countStep l = some t) : Moves lv s0 t := by
  unfold State.countStep at e
  dsimp only at e
  split at e
  · split at e <;> (rename_i e2; cases e)
    · exact moves_upRequest_eq h e2
    · unfold State.setSatWarm; exact moves_modLoop (moves_upRequest_eq h e2) _ _
  · split at e
    · cases e; exact moves_downRequest h l
    · cases e
@[simp] theorem moves_setSatWarm (h : Moves lv s0 s) (l : LoopId) :
    Moves lv s0 (s.setSatWarm l) := by
  unfold State.setSatWarm
  simp [h]
@[simp] theorem moves_clearSats (h : Moves lv s0 s) (l : LoopId) :
    Moves lv s0 (s.clearSats l) := by
  unfold State.clearSats
  try dsimp only
  repeat' split
  all_goals first | exact h | simp (contextual := true) (maxDischargeDepth := 40) [h]
@[simp] theorem moves_tooWarm (h : Moves lv s0 s) (l : LoopId) :
    Moves lv s0 (s.tooWarm l) := by
  unfold State.tooWarm
  dsimp only
  repeat' split
  case _ => simp [h]
  case _ => simp [h]
  case _ => simp [h]
  case _ e => exact moves_clearSats (moves_upRequest_eq h e) _
  case _ e => exact moves_setSatWarm (moves_upRequest_eq h e) _
  case _ => simp [h]
@[simp] theorem moves_raiseBypass (h : Moves lv s0 s) (l : LoopId) :
    Moves lv s0 (s.raiseBypass l) := by
  unfold State.raiseBypass
  try dsimp only
  repeat' split
  all_goals first | exact h | simp (contextual := true) (maxDischargeDepth := 40) [h]
@[simp] theorem moves_tooCold (h : Moves lv s0 s) (l : LoopId) :
    Moves lv s0 (s.tooCold l) := by
  unfold State.tooCold
  dsimp only
  repeat' split
  case _ => simp [h]
  case _ e => exact moves_clearSats (moves_downRequest_eq h e) _
  case _ e => exact moves_raiseBypass (moves_downRequest_eq h e) _
  case _ => simp [h]
@[simp] theorem moves_bandStep (h : Moves lv s0 s) (l : LoopId) (supply : Temp) :
    Moves lv s0 (s.bandStep l supply) := by
  unfold State.bandStep
  try dsimp only
  repeat' split
  all_goals first | exact h | simp (contextual := true) (maxDischargeDepth := 40) [h]
@[simp] theorem moves_regulate (h : Moves lv s0 s) (l : LoopId) :
    Moves lv s0 (s.regulate l) := by
  unfold State.regulate
  split
  · exact moves_blindTick h _
  · dsimp only
    split
    case _ e => exact moves_countStep (moves_ceilingStep (moves_coldStep (moves_sighted h _) _ _) _) e
    case _ => exact moves_bandStep (moves_ceilingStep (moves_coldStep (moves_sighted h _) _ _) _) _ _
@[simp] theorem moves_loopTick (h : Moves lv s0 s) (l : LoopId) :
    Moves lv s0 (s.loopTick l) := by
  unfold State.loopTick
  try dsimp only
  repeat' split
  all_goals first | exact h | simp (contextual := true) (maxDischargeDepth := 40) [h]
@[simp] theorem moves_idleLoop (h : Moves lv s0 s) (l : LoopId) :
    Moves lv s0 (s.idleLoop l) := by
  unfold State.idleLoop
  try dsimp only
  repeat' split
  all_goals first | exact h | simp (contextual := true) (maxDischargeDepth := 40) [h]
@[simp] theorem moves_runLost (h : Moves lv s0 s) (l : LoopId) (p : PumpId) :
    Moves lv s0 (s.runLost l p) := by
  unfold State.runLost
  try dsimp only
  repeat' split
  all_goals first | exact h | simp (contextual := true) (maxDischargeDepth := 40) [h]
@[simp] theorem moves_bypassLost (h : Moves lv s0 s) (l : LoopId) :
    Moves lv s0 (s.bypassLost l) := by
  unfold State.bypassLost
  try dsimp only
  repeat' split
  all_goals first | exact h | simp (contextual := true) (maxDischargeDepth := 40) [h]
@[simp] theorem moves_resendRun (h : Moves lv s0 s) (l : LoopId) (p : PumpId) :
    Moves lv s0 (s.resendRun l p) := by
  unfold State.resendRun
  try dsimp only
  repeat' split
  all_goals first | exact h | simp (contextual := true) (maxDischargeDepth := 40) [h]
@[simp] theorem moves_resendBypass (h : Moves lv s0 s) (l : LoopId) :
    Moves lv s0 (s.resendBypass l) := by
  unfold State.resendBypass
  try dsimp only
  repeat' split
  all_goals first | exact h | simp (contextual := true) (maxDischargeDepth := 40) [h]
@[simp] theorem moves_pumpNodeChanged (h : Moves lv s0 s) (l : LoopId) (p : PumpId) (st : NodeState) :
    Moves lv s0 (s.pumpNodeChanged l p st) := by
  unfold State.pumpNodeChanged
  try dsimp only
  repeat' split
  all_goals first | exact h | simp (contextual := true) (maxDischargeDepth := 40) [h]
@[simp] theorem moves_frostChange (h : Moves lv s0 s) (c : CoilId) (new : FrostState) (cause : FrostCause) :
    Moves lv s0 (s.frostChange c new cause) := by
  unfold State.frostChange
  try dsimp only
  repeat' split
  all_goals first | exact h | simp (contextual := true) (maxDischargeDepth := 40) [h]
@[simp] theorem moves_setFrost (h : Moves lv s0 s) (c : CoilId) (new : FrostState) (cause : FrostCause) :
    Moves lv s0 (s.setFrost c new cause) := by
  unfold State.setFrost
  try dsimp only
  repeat' split
  all_goals first | exact h | simp (contextual := true) (maxDischargeDepth := 40) [h]
@[simp] theorem moves_setFrostValue (h : Moves lv s0 s) (c : CoilId) (v : Option Temp) :
    Moves lv s0 (s.setFrostValue c v) := by
  unfold State.setFrostValue
  try dsimp only
  repeat' split
  all_goals first | exact h | simp (contextual := true) (maxDischargeDepth := 40) [h]
@[simp] theorem moves_outletArrived (h : Moves lv s0 s) (c : CoilId) (v : Temp) :
    Moves lv s0 (s.outletArrived c v) := by
  unfold State.outletArrived
  try dsimp only
  repeat' split
  all_goals first | exact h | simp (contextual := true) (maxDischargeDepth := 40) [h]
@[simp] theorem moves_outletLost (h : Moves lv s0 s) (c : CoilId) (cause : FrostCause) :
    Moves lv s0 (s.outletLost c cause) := by
  unfold State.outletLost
  try dsimp only
  repeat' split
  all_goals first | exact h | simp (contextual := true) (maxDischargeDepth := 40) [h]
@[simp] theorem moves_rebindFrost (h : Moves lv s0 s) (c : CoilId) :
    Moves lv s0 (s.rebindFrost c) := by
  unfold State.rebindFrost
  try dsimp only
  repeat' split
  all_goals first | exact h | simp (contextual := true) (maxDischargeDepth := 40) [h]
@[simp] theorem moves_reclassifyLoop (h : Moves lv s0 s) (l : LoopId) :
    Moves lv s0 (s.reclassifyLoop l) := by
  unfold State.reclassifyLoop
  refine moves_resummarise (moves_forEach h _ _ ?_) _
  intro c t ht
  split
  · exact moves_setFrost (moves_setFrostValue ht _ _) _ _ _
  · exact ht
@[simp] theorem moves_resummariseAll (h : Moves lv s0 s) :
    Moves lv s0 (s.resummariseAll) := by
  unfold State.resummariseAll
  try dsimp only
  repeat' split
  all_goals first | exact h | simp (contextual := true) (maxDischargeDepth := 40) [h]
@[simp] theorem moves_giveLost (h : Moves lv s0 s) (n : NodeId) :
    Moves lv s0 (s.giveLost n) := by
  unfold State.giveLost
  repeat' split
  all_goals first | exact h | simp [h]
@[simp] theorem moves_reselect (h : Moves lv s0 s) :
    Moves lv s0 (s.reselect) := by
  unfold State.reselect
  try dsimp only
  repeat' split
  all_goals first | exact h | simp (contextual := true) (maxDischargeDepth := 40) [h]
@[simp] theorem moves_hostExpired (h : Moves lv s0 s) :
    Moves lv s0 (s.hostExpired) := by
  unfold State.hostExpired
  try dsimp only
  repeat' split
  all_goals first | exact h | simp (contextual := true) (maxDischargeDepth := 40) [h]
@[simp] theorem moves_handOnChan (h : Moves lv s0 s) (p : ChanId) :
    Moves lv s0 (s.handOnChan p) := by
  unfold State.handOnChan
  try dsimp only
  repeat' split
  all_goals first | exact h | simp (contextual := true) (maxDischargeDepth := 40) [h]
@[simp] theorem moves_restartChan (h : Moves lv s0 s) (p : ChanId) (cause : String) :
    Moves lv s0 (s.restartChan p cause) := by
  unfold State.restartChan
  try dsimp only
  repeat' split
  all_goals first | exact h | simp (contextual := true) (maxDischargeDepth := 40) [h]
@[simp] theorem moves_pulseEdge (h : Moves lv s0 s) (p : ChanId) (e : Edge) (t : Nat) :
    Moves lv s0 (s.pulseEdge p e t) := by
  unfold State.pulseEdge
  try dsimp only
  repeat' split
  all_goals first | exact h | simp (contextual := true) (maxDischargeDepth := 40) [h]
/-- A channel that is OFF has no gate to end, and no gate ends before the uptime has passed the second it began at (R163). -/
theorem gateEnd_of_none {p : ChanId} (h : (s.cfg.chans[p]).mode = .off ∨ s.uptime ≤ ((s.inputs.chans)[p]).gateStart) : s.gateEnd p = s :=
  if_pos h

@[simp] theorem moves_gateEnd (h : Moves lv s0 s) (p : ChanId) :
    Moves lv s0 (s.gateEnd p) := by
  unfold State.gateEnd
  try dsimp only
  repeat' split
  all_goals first | exact h | simp (contextual := true) (maxDischargeDepth := 40) [h]
@[simp] theorem moves_recomputeConditions (h : Moves lv s0 s) :
    Moves lv s0 (s.recomputeConditions) := by
  unfold State.recomputeConditions
  have k := moves_modInputs h fun i =>
    { i with plantStop := s.roleActive .plantStop, snowWarn := s.roleActive .snowWarn }
  have k2 : Moves lv s0 (if s.roleActive .plantStop = s.inputs.plantStop then _ else _) :=
    moves_ite k (moves_forEach k allCoils (fun c s => s.refan c .urgent) fun c t ht => moves_refan ht c .urgent)
  exact moves_ite (moves_snowTrigger k2) k2
@[simp] theorem moves_inputChanged (h : Moves lv s0 s) (i : InputId) :
    Moves lv s0 (s.inputChanged i) := by
  unfold State.inputChanged
  try dsimp only
  repeat' split
  all_goals first | exact h | simp (contextual := true) (maxDischargeDepth := 40) [h]
@[simp] theorem moves_svcChanged (h : Moves lv s0 s) :
    Moves lv s0 (s.svcChanged) := by
  unfold State.svcChanged
  try dsimp only
  repeat' split
  all_goals first | exact h | simp (contextual := true) (maxDischargeDepth := 40) [h]
@[simp] theorem moves_modContact (h : Moves lv s0 s) (i : InputId) (f : Contact → Contact) :
    Moves lv s0 (s.modContact i f) := by
  unfold State.modContact
  try dsimp only
  repeat' split
  all_goals first | exact h | simp (contextual := true) (maxDischargeDepth := 40) [h]
@[simp] theorem moves_pinMoved (h : Moves lv s0 s) (pin : Pin) (high : Bool) :
    Moves lv s0 (s.pinMoved pin high) := by
  unfold State.pinMoved
  try dsimp only
  repeat' split
  all_goals first | exact h | simp (contextual := true) (maxDischargeDepth := 40) [h]
@[simp] theorem moves_debounceExpired (h : Moves lv s0 s) (pin : Pin) :
    Moves lv s0 (s.debounceExpired pin) := by
  unfold State.debounceExpired
  try dsimp only
  repeat' split
  all_goals first | exact h | simp (contextual := true) (maxDischargeDepth := 40) [h]

end

end Sys2Proof.Machine
end

