-- ==== Sys2Proof/Laws/MovesPlan.lean ====
section
/-! SUPPORT. The plan unit acts by moves, and keeps the plan law. -/

namespace Sys2Proof.Machine

/-! ## The plan law under the plan unit's updates -/

theorem PlanLaw.blank : PlanLaw .blank := by
  constructor
  · intro i h; simp [Plan.isLive, Plan.blank] at h
  · intro h; simp [Plan.blank] at h
  · intro h; simp [Plan.blank] at h

/-- An update that keeps slots, state, CUR and LAST keeps the law. -/
theorem PlanLaw.same {p q : Plan} (hs : q.slots = p.slots) (ht : q.state = p.state) (hc : q.cur = p.cur)
    (hl : q.last = p.last) (h : PlanLaw p) : PlanLaw q := by
  obtain ⟨a, b, c⟩ := h
  constructor
  · intro i hi
    have : p.isLive i = true := by simpa [Plan.isLive, ht, hc, hl] using hi
    simpa [hs] using a i this
  · rw [ht, hc, hl]; exact b
  · rw [ht, hc, hl]; exact c

/-- Slots are counted forward around the ring: what is live after an advance was live before, and is not the finished slot. -/
theorem live_advance (cur last i : SlotId) (hne : cur ≠ last) (h : (i - (cur + 1)).val ≤ (last - (cur + 1)).val) :
    (i - cur).val ≤ (last - cur).val ∧ i ≠ cur := by
  revert cur last i
  decide

/-- An advance keeps the law. -/
theorem PlanLaw.advance {p : Plan} (h : PlanLaw p) (hne : p.cur ≠ p.last) (hst : p.state ≠ .empty) (after : PlanState)
    (ha : after = .active ∨ after = .paused) (t0 : Option Temp) :
    PlanLaw { p with slots := p.slots.set p.cur none, state := after, cur := p.successor, elapsed := 0, rampStart := t0 } := by
  constructor
  · intro i hi
    have hi2 : (i - (p.cur + 1)).val ≤ (p.last - (p.cur + 1)).val := by
      simp only [Plan.isLive, Plan.successor, Bool.and_eq_true] at hi
      exact of_decide_eq_true hi.2
    obtain ⟨hb, hc⟩ := live_advance _ _ _ hne hi2
    have hf := h.filled i (by simp [Plan.isLive, hst, hb])
    have hv : i.val ≠ p.cur.val := fun e => hc (Fin.ext e)
    simpa [Vector.getElem_set, Ne.symm hv] using hf
  · intro he; rcases ha with ha | ha <;> simp [ha] at he
  · intro he; rcases ha with ha | ha <;> simp [ha] at he

theorem PlanLaw.toStopped {p : Plan} (h : PlanLaw p) (hst : p.state ≠ .empty) (hne : p.cur ≠ p.last) :
    PlanLaw { p with state := .stopped } := by
  refine ⟨fun i hi => h.filled i ?_, fun x => by simp at x, fun _ => hne⟩
  simp only [Plan.isLive, Bool.and_eq_true] at hi ⊢
  exact ⟨by simp [hst], hi.2⟩

theorem PlanLaw.toHolding {p : Plan} (h : PlanLaw p) (hst : p.state ≠ .empty) (he : p.cur = p.last) :
    PlanLaw { p with state := .holding } := by
  refine ⟨fun i hi => h.filled i ?_, fun _ => he, fun x => by simp at x⟩
  simp only [Plan.isLive, Bool.and_eq_true] at hi ⊢
  exact ⟨by simp [hst], hi.2⟩

section
variable {lv : Nat} {s0 s : State}

@[simp] theorem moves_setVerdict (h : Moves lv s0 s) (l : LoopId) (i : SlotId) (v : Verdict) :
    Moves lv s0 (s.setVerdict l i v) := moves_modPlan h _ _ (PlanLaw.same rfl rfl rfl rfl)

@[simp] theorem moves_prepareFailed (h : Moves lv s0 s) (l : LoopId) (i : SlotId) (v : Verdict) (w : String) :
    Moves lv s0 (s.prepareFailed l i v w) := by
  unfold State.prepareFailed
  simp [h]

@[simp] theorem moves_checkAhead (h : Moves lv s0 s) (l : LoopId) : Moves lv s0 (s.checkAhead l) := by
  unfold State.checkAhead
  refine moves_ite (moves_modPlan h _ _ (PlanLaw.same rfl rfl rfl rfl)) ?_
  exact moves_ite (moves_setVerdict h _ _ _) (moves_prepareFailed (moves_setVerdict h _ _ _) _ _ _ _)

theorem moves_advance (h : Moves lv s0 s) (l : LoopId) (cause : String) (quiet : Bool) (after : PlanState)
    (hne : PlanLaw s.plans[l] → (s.plans[l]).cur ≠ (s.plans[l]).last) (hst : (s.plans[l]).state ≠ .empty)
    (ha : after = .active ∨ after = .paused) : Moves lv s0 (s.advance l cause quiet after) := by
  unfold State.advance
  refine moves_refanLoop (moves_checkAhead ?_ _) _ _
  have k := moves_event (moves_modPlan h l
    (fun q => { q with slots := q.slots.set (s.plans[l]).cur none, state := after, cur := (s.plans[l]).successor, elapsed := 0,
                       rampStart := some (s.effective l).target })
    fun hp => hp.advance (hne hp) hst after ha _) (.loop l) .segment
      [("slot", .int (s.plans[l]).cur.val), ("cur", .int (s.plans[l]).successor.val), ("cause", .word cause)]
  exact moves_ite (moves_raise k _) k

theorem modPlan_self (s : State) (l : LoopId) (f : Plan → Plan) : (s.modPlan l f).plans[l] = f s.plans[l] := by
  simp

theorem setVerdict_plan (s : State) (l : LoopId) (i : SlotId) (v : Verdict) :
    (s.setVerdict l i v).plans[l] = { s.plans[l] with prep := i, verdict := v } := by
  simp [State.setVerdict]

theorem moves_endSegment (h : Moves lv s0 s) (l : LoopId) (cause : String) (quiet : Bool) (after : PlanState)
    (hne : PlanLaw s.plans[l] → (s.plans[l]).cur ≠ (s.plans[l]).last) (hst : (s.plans[l]).state ≠ .empty)
    (ha : after = .active ∨ after = .paused) : Moves lv s0 (s.endSegment l cause quiet after) := by
  unfold State.endSegment
  dsimp only
  have k := moves_setVerdict h l (s.plans[l]).successor (s.prepareCheck l (s.plans[l]).successor)
  have e := setVerdict_plan s l (s.plans[l]).successor (s.prepareCheck l (s.plans[l]).successor)
  generalize s.prepareCheck l (s.plans[l]).successor = v at *
  have e2 : PlanLaw { s.plans[l] with prep := (s.plans[l]).successor, verdict := v } → PlanLaw s.plans[l] :=
    PlanLaw.same rfl rfl rfl rfl
  refine moves_ite ?_ ?_
  · refine moves_advance k _ _ _ _ ?_ ?_ ha
    · rw [e]; exact fun hp => hne (e2 hp)
    · rw [e]; exact hst
  · refine moves_prepareFailed (moves_modPlan k l _ ?_) _ _ _ _
    rw [e]
    exact fun hp => hp.toStopped hst (hne (e2 hp))

@[simp] theorem moves_holdPlan (h : Moves lv s0 s) (l : LoopId) (he : (s.plans[l]).cur = (s.plans[l]).last)
    (hst : (s.plans[l]).state ≠ .empty) : Moves lv s0 (s.holdPlan l) := by
  unfold State.holdPlan
  refine moves_raise (moves_event (moves_modPlan h l _ ?_) _ _ _) _
  exact fun hp => hp.toHolding hst he

/-- A segment is due when its plan is ACTIVE and elapsed has reached its duration, which is not 0 (R31). -/
theorem Plan.timeUp_iff (p : Plan) : p.timeUp = true ↔
    p.state = .active ∧ ∃ g, (p.slots)[p.cur] = some g ∧ g.duration ≠ 0 ∧ g.duration * 60 ≤ p.elapsed := by
  unfold Plan.timeUp Plan.endsAt
  cases p.state <;> cases (p.slots)[p.cur] <;> simp
  split <;> simp_all

theorem Plan.timeUp_active {p : Plan} (h : p.timeUp = true) : p.state = .active := by
  unfold Plan.timeUp at h
  split at h
  · assumption
  · simp at h

theorem moves_segmentEnded (h : Moves lv s0 s) (l : LoopId) (hst : (s.plans[l]).state ≠ .empty) :
    Moves lv s0 (s.segmentEnded l) := by
  unfold State.segmentEnded
  dsimp only
  split
  · exact moves_holdPlan h l ‹_› hst
  · exact moves_endSegment h l _ _ _ (fun _ => ‹_›) hst (Or.inl rfl)

theorem moves_skipSegment (h : Moves lv s0 s) (l : LoopId)
    (hst : (s.plans[l]).state = .active ∨ (s.plans[l]).state = .paused) : Moves lv s0 (s.skipSegment l) := by
  have hne : (s.plans[l]).state ≠ .empty := by rcases hst with e | e <;> rw [e] <;> decide
  unfold State.skipSegment
  dsimp only
  split
  · exact moves_holdPlan h l ‹_› hne
  · exact moves_endSegment h l _ _ _ (fun _ => ‹_›) hne hst

end

/-! ## Commits -/

theorem slot_add_sub : ∀ a i : SlotId, a + (i - a) = i := by decide

theorem Plan.not_live {p : Plan} {i : SlotId} (hst : p.state ≠ .empty) (h : p.isLive i = false) :
    ¬ (i - p.cur).val ≤ (p.last - p.cur).val := by
  simpa [Plan.isLive, hst] using h

/-- The slots of a commit are filled: none of them is the first unfilled one. -/
theorem firstUnfilled_none {p : Plan} {a b : SlotId} (h : p.firstUnfilled (slotsFrom a b) = none) (i : SlotId)
    (hi : (i - a).val ≤ (b - a).val) : ((p.slots)[i]).isSome = true := by
  unfold Plan.firstUnfilled at h
  rw [List.find?_eq_none] at h
  have hm : i ∈ slotsFrom a b := by
    unfold slotsFrom
    rw [List.mem_map]
    refine ⟨i - a, ?_, ?_⟩
    · simpa using hi
    · exact slot_add_sub a i
  simpa [Option.isNone_iff_eq_none, Option.isSome_iff_ne_none] using h i hm

theorem live_extend (cur last new i : SlotId) (hn : ¬ (new - cur).val ≤ (last - cur).val)
    (h : (i - cur).val ≤ (new - cur).val) :
    (i - cur).val ≤ (last - cur).val ∨ (i - (last + 1)).val ≤ (new - (last + 1)).val := by
  revert cur last new i
  decide

/-- A commit beyond LAST whose new slots are filled keeps the live range filled. -/
theorem PlanLaw.extend {p : Plan} (h : PlanLaw p) (hst : p.state ≠ .empty) {i : SlotId} (hl : p.isLive i = false)
    (hf : p.firstUnfilled (slotsFrom (p.last + 1) i) = none) (st : PlanState)
    (hs : st = .active ∨ (st = p.state ∧ p.state ≠ .holding)) : PlanLaw { p with last := i, state := st } := by
  have hn := Plan.not_live hst hl
  constructor
  · intro j hj
    have hj2 : (j - p.cur).val ≤ (i - p.cur).val := by
      simp only [Plan.isLive, Bool.and_eq_true] at hj
      exact of_decide_eq_true hj.2
    rcases live_extend _ _ _ _ hn hj2 with a | a
    · exact h.filled j (by simp [Plan.isLive, hst, a])
    · exact firstUnfilled_none hf j a
  · intro e
    rcases hs with hs | ⟨hs, hh⟩
    · simp [hs] at e
    · exact absurd (hs ▸ e) hh
  · intro _ e
    apply hn
    rw [show i = p.cur from e.symm]
    simp

/-- The first commit of an EMPTY plan fills its live range. -/
theorem PlanLaw.first {p : Plan} {i : SlotId} (hf : p.firstUnfilled (slotsFrom p.cur i) = none) (t0 : Option Temp) :
    PlanLaw { p with last := i, state := .paused, elapsed := 0, rampStart := t0 } := by
  constructor
  · intro j hj
    have hj2 : (j - p.cur).val ≤ (i - p.cur).val := by
      simp only [Plan.isLive, Bool.and_eq_true] at hj
      exact of_decide_eq_true hj.2
    exact firstUnfilled_none hf j hj2
  · intro e; simp at e
  · intro e; simp at e

section
variable {lv : Nat} {s0 s : State}

theorem moves_firstCommit (h : Moves lv s0 s) (l : LoopId) (i : SlotId)
    (hf : (s.plans[l]).firstUnfilled (slotsFrom (s.plans[l]).cur i) = none) : Moves lv s0 (s.firstCommit l i) := by
  unfold State.firstCommit
  exact moves_refanLoop (moves_checkAhead (moves_modPlan h _ _ fun _ => PlanLaw.first hf _) _) _ _

theorem moves_extendPlan (h : Moves lv s0 s) (l : LoopId) (i : SlotId) (hst : (s.plans[l]).state ≠ .empty)
    (hl : (s.plans[l]).isLive i = false)
    (hf : (s.plans[l]).firstUnfilled (slotsFrom ((s.plans[l]).last + 1) i) = none) : Moves lv s0 (s.extendPlan l i) := by
  have hn := Plan.not_live hst hl
  unfold State.extendPlan
  dsimp only
  split
  · have k := moves_modPlan h l (fun q => { q with last := i, state := .active })
      fun hp => hp.extend hst hl hf _ (Or.inl rfl)
    refine moves_endSegment k _ _ _ _ ?_ ?_ (Or.inl rfl)
    · intro _
      rw [modPlan_self]
      intro e
      apply hn
      rw [show i = (s.plans[l]).cur from e.symm]
      simp
    · rw [modPlan_self]; simp
  · have k := moves_modPlan h l (fun q => { q with last := i })
      fun hp => hp.extend hst hl hf _ (Or.inr ⟨rfl, ‹_›⟩)
    exact moves_ite (moves_checkAhead k _) k

end

end Sys2Proof.Machine
end

