-- ==== Sys2Proof/Laws/MovesBus.lean ====
section
/-! SUPPORT. The roof bus master acts by moves. -/

namespace Sys2Proof.Machine

set_option linter.unusedTactic false
set_option linter.unusedSimpArgs false
set_option linter.unreachableTactic false

/-! ## The queue law under the queues' updates -/

theorem queued_iff {q : List Entry} {n : NodeId} : queuedIn q n = true ↔ n ∈ q.map Entry.node := by
  simp [queuedIn]

theorem QueueLaw.enqueue {b : Bus} (h : QueueLaw b) {n : NodeId} (hn : b.queued n = false) (u : Urgency) (v : Int) (r : Nat) :
    QueueLaw (b.enqueue u ⟨n, v, r⟩) := by
  have h1 : n ∉ b.urgent.map Entry.node := fun m => by simp [Bus.queued, queued_iff.mpr m] at hn
  have h2 : n ∉ b.routine.map Entry.node := fun m => by simp [Bus.queued, queued_iff.mpr m] at hn
  unfold QueueLaw at *
  cases u
  · simp only [Bus.enqueue, List.map_append, List.map_cons, List.map_nil, List.append_assoc, List.singleton_append] at h ⊢
    rw [List.nodup_middle]
    exact List.nodup_cons.mpr ⟨by simp only [List.mem_append]; exact fun m => m.elim h1 h2, h⟩
  · simp only [Bus.enqueue, List.map_append, List.map_cons, List.map_nil] at h ⊢
    rw [← List.append_assoc, List.nodup_append_comm, List.singleton_append]
    exact List.nodup_cons.mpr ⟨by simp only [List.mem_append]; exact fun m => m.elim h1 h2, h⟩

theorem unqueue_sublist (q : List Entry) (n : NodeId) : (unqueue q n).Sublist q := List.filter_sublist

theorem QueueLaw.sub {b c : Bus} (h : QueueLaw b) (hu : c.urgent.Sublist b.urgent) (hr : c.routine.Sublist b.routine) :
    QueueLaw c := by
  unfold QueueLaw at *
  exact h.sublist ((hu.append hr).map _)

theorem QueueLaw.unqueue {b : Bus} (h : QueueLaw b) (n : NodeId) :
    QueueLaw { b with urgent := Machine.unqueue b.urgent n, routine := Machine.unqueue b.routine n } :=
  h.sub (unqueue_sublist _ _) (unqueue_sublist _ _)

theorem not_queued_unqueue (q : List Entry) (n : NodeId) : n ∉ (unqueue q n).map Entry.node := by
  simp [Machine.unqueue]

theorem replaceQueued_nodes (q : List Entry) (n : NodeId) (v : Int) :
    (replaceQueued q n v).map Entry.node = q.map Entry.node := by
  unfold replaceQueued
  rw [List.map_map]
  apply List.map_congr_left
  intro e _
  simp only [Function.comp]
  split <;> rfl

/-- A replacement in place, or a move to the tail of URGENT, keeps the law (R153). -/
theorem QueueLaw.replace {b : Bus} (h : QueueLaw b) (n : NodeId) (v : Int) (u : Urgency) : QueueLaw (b.replace n v u) := by
  unfold Bus.replace
  split
  · unfold QueueLaw at *
    simpa only [List.map_append, replaceQueued_nodes] using h
  rename_i hq
  cases u
  · have k := h.unqueue n
    have h1 : queuedIn b.urgent n = false := by simpa using hq
    have e : Machine.unqueue b.urgent n = b.urgent := by
      unfold Machine.unqueue
      rw [List.filter_eq_self]
      intro x hx
      have : n ∉ b.urgent.map Entry.node := fun m => by simp [queued_iff.mpr m] at h1
      simp only [decide_eq_true_eq]
      intro he
      exact this (he ▸ List.mem_map_of_mem hx)
    rw [e] at k
    have hn : ({ b with urgent := b.urgent, routine := Machine.unqueue b.routine n } : Bus).queued n = false := by
      simp only [Bus.queued, h1, Bool.false_or]
      by_contra hc
      exact not_queued_unqueue b.routine n (queued_iff.mp (by simpa using hc))
    exact k.enqueue hn .urgent v 0
  · unfold QueueLaw at *
    simpa only [List.map_append, replaceQueued_nodes] using h

/-- A command request keeps the law (R153). -/
theorem QueueLaw.busRequest {s : State} (h : QueueLaw s.bus) (n : NodeId) (v : Int) (u : Urgency) :
    QueueLaw (s.busRequest n v u).bus := by
  unfold State.busRequest
  dsimp only
  repeat' split
  · simpa [State.commandLost, QueueLaw] using h
  · simpa using h.replace n v u
  · rename_i hq
    simpa using h.enqueue (by simpa using hq) u v 0

section
variable {lv : Nat} {s0 s : State}

@[simp] theorem moves_modPoint (h : Moves (lv + 1) s0 s) (n : NodeId) (p : Fin 4) (f : PointEntry → PointEntry) :
    Moves (lv + 1) s0 (s.modPoint n p f) := by
  unfold State.modPoint
  try dsimp only
  repeat' split
  all_goals first | exact h | simp (contextual := true) (maxDischargeDepth := 40) [h, QueueLaw]
@[simp] theorem moves_pointArrived (h : Moves (lv + 1) s0 s) (n : NodeId) (p : Nat) (v : Int) :
    Moves (lv + 1) s0 (s.pointArrived n p v) := by
  unfold State.pointArrived
  extract_lets pt s1 s2 s3 s4 s5 s6 s7
  have h1 : Moves (lv + 1) s0 s1 := moves_forEach h _ _ fun l t ht => moves_supplyArrived ht l v
  have h2 : Moves (lv + 1) s0 s2 := moves_forEach h1 _ _ fun l t ht => moves_flowEvent ht l
  have h3 : Moves (lv + 1) s0 s3 := moves_forEach h2 _ _ fun c t ht => moves_ite (moves_outletArrived ht c v) ht
  have h4 : Moves (lv + 1) s0 s4 := moves_forEach h3 _ _ fun c t ht => moves_ite (moves_icingArrived ht c v) ht
  have h5 : Moves (lv + 1) s0 s5 :=
    moves_ite (moves_forEach h4 _ _ fun c t ht => moves_ite (moves_valveArrived ht c v) ht) h4
  have h6 : Moves (lv + 1) s0 s6 := moves_ite (moves_forEach h5 _ _ fun c t ht => moves_coilStatusArrived ht c n v) h5
  have h7 : Moves (lv + 1) s0 s7 := moves_ite (moves_forEach h6 _ _ fun x t ht => moves_pumpStatusArrived ht x.1 x.2 v) h6
  exact moves_ite (moves_reselect h7) h7
@[simp] theorem moves_goodRead (h : Moves (lv + 1) s0 s) (n : NodeId) (p : Nat) (v : Int) :
    Moves (lv + 1) s0 (s.goodRead n p v) := by
  unfold State.goodRead
  try dsimp only
  repeat' split
  all_goals first | exact h | simp (contextual := true) (maxDischargeDepth := 40) [h, QueueLaw]
@[simp] theorem moves_pointFell (h : Moves (lv + 1) s0 s) (n : NodeId) (p : Nat) (f : Freshness) :
    Moves (lv + 1) s0 (s.pointFell n p f) := by
  unfold State.pointFell
  extract_lets pt s1 s2 s3 s4
  have h1 : Moves (lv + 1) s0 s1 := moves_forEach h _ _ fun l t ht => moves_evalHold ht l
  have h2 : Moves (lv + 1) s0 s2 := moves_forEach h1 _ _ fun l t ht => moves_flowEvent ht l
  have h3 : Moves (lv + 1) s0 s3 := moves_forEach h2 _ _ fun c t ht => moves_ite (moves_outletLost ht c _) ht
  have h4 : Moves (lv + 1) s0 s4 := moves_ite (moves_forEach h3 _ _ fun x t ht => moves_pumpFreshness ht x.1) h3
  exact moves_ite (moves_reselect h4) h4
@[simp] theorem moves_makeAbsent (h : Moves (lv + 1) s0 s) (n : NodeId) (p : Fin 4) :
    Moves (lv + 1) s0 (s.makeAbsent n p) := by
  unfold State.makeAbsent
  try dsimp only
  repeat' split
  all_goals first | exact h | simp (contextual := true) (maxDischargeDepth := 40) [h, QueueLaw]
@[simp] theorem moves_allAbsent (h : Moves (lv + 1) s0 s) (n : NodeId) :
    Moves (lv + 1) s0 (s.allAbsent n) := by
  unfold State.allAbsent
  exact moves_forEach h _ _ fun p t ht => moves_makeAbsent ht n p
@[simp] theorem moves_pointStale (h : Moves (lv + 1) s0 s) (n : NodeId) (p : Fin 4) :
    Moves (lv + 1) s0 (s.pointStale n p) := by
  unfold State.pointStale
  try dsimp only
  repeat' split
  all_goals first | exact h | simp (contextual := true) (maxDischargeDepth := 40) [h, QueueLaw]
@[simp] theorem moves_discardEntry (h : Moves (lv + 1) s0 s) (e : Entry) :
    Moves (lv + 1) s0 (s.discardEntry e) := by
  unfold State.discardEntry State.commandLost
  simp (contextual := true) (maxDischargeDepth := 40) [h, QueueLaw]
@[simp] theorem moves_discardEntries (h : Moves (lv + 1) s0 s) (n : NodeId) :
    Moves (lv + 1) s0 (s.discardEntries n) := by
  unfold State.discardEntries
  exact moves_forEach (moves_modBus h _ fun hq => hq.unqueue n) _ _ fun e t ht => moves_discardEntry ht e
@[simp] theorem moves_nodeToOwner (h : Moves (lv + 1) s0 s) (n : NodeId) (st : NodeState) :
    Moves (lv + 1) s0 (s.nodeToOwner n st) := by
  unfold State.nodeToOwner
  try dsimp only
  repeat' split
  all_goals first | exact h | simp (contextual := true) (maxDischargeDepth := 40) [h, QueueLaw]
@[simp] theorem moves_nodeChange (h : Moves (lv + 1) s0 s) (n : NodeId) (new : NodeState) (miss : Nat) (o : BusOutcome) :
    Moves (lv + 1) s0 (s.nodeChange n new miss o) := by
  unfold State.nodeChange
  extract_lets old s1 s2 s3 s4
  have h1 : Moves (lv + 1) s0 s1 := moves_modNode h _ _
  have h2 : Moves (lv + 1) s0 s2 := moves_ite (moves_allAbsent h1 _) h1
  have h3 : Moves (lv + 1) s0 s3 := moves_ite (moves_raise (moves_event h2 _ _ _) _) h2
  have h4 : Moves (lv + 1) s0 s4 := moves_ite (moves_nodeToOwner h3 _ _) h3
  exact moves_ite (moves_discardEntries h4 _) h4
@[simp] theorem moves_setNode (h : Moves (lv + 1) s0 s) (n : NodeId) (new : NodeState) (miss : Nat) (o : BusOutcome) :
    Moves (lv + 1) s0 (s.setNode n new miss o) := by
  unfold State.setNode
  try dsimp only
  repeat' split
  all_goals first | exact h | simp (contextual := true) (maxDischargeDepth := 40) [h, QueueLaw]
@[simp] theorem moves_nodeOutcome (h : Moves (lv + 1) s0 s) (n : NodeId) (o : BusOutcome) :
    Moves (lv + 1) s0 (s.nodeOutcome n o) := by
  unfold State.nodeOutcome
  try dsimp only
  repeat' split
  all_goals first | exact h | simp (contextual := true) (maxDischargeDepth := 40) [h, QueueLaw]
@[simp] theorem moves_modPoller (h : Moves (lv + 1) s0 s) (f : Poller → Poller) :
    Moves (lv + 1) s0 (s.modPoller f) := by
  unfold State.modPoller
  try dsimp only
  repeat' split
  all_goals first | exact h | simp (contextual := true) (maxDischargeDepth := 40) [h, QueueLaw]
@[simp] theorem moves_endTurn (h : Moves (lv + 1) s0 s) (n : NodeId) : Moves (lv + 1) s0 (s.endTurn n) := by
  unfold State.endTurn
  exact moves_ite (moves_modPoller h _) h
@[simp] theorem moves_identified (h : Moves (lv + 1) s0 s) (n : NodeId) (o : BusOutcome) : Moves (lv + 1) s0 (s.identified n o) := by
  unfold State.identified
  exact moves_setNode (moves_endTurn h n) n _ _ o
@[simp] theorem moves_identOutcome (h : Moves (lv + 1) s0 s) (n : NodeId) (o : BusOutcome) (v : Int) :
    Moves (lv + 1) s0 (s.identOutcome n o v) := by
  unfold State.identOutcome
  try dsimp only
  repeat' split
  all_goals first | exact h | simp (contextual := true) (maxDischargeDepth := 40) [h, QueueLaw]
@[simp] theorem moves_countLineError (h : Moves (lv + 1) s0 s) (o : BusOutcome) :
    Moves (lv + 1) s0 (s.countLineError o) := by
  unfold State.countLineError
  dsimp only
  refine moves_ite (moves_ite ?_ ?_) ?_
  · exact moves_raise (moves_event (moves_modBus_quiet h _ rfl rfl) _ _ _) _
  · exact moves_modBus_quiet h _ rfl rfl
  · exact moves_modBus_quiet h _ rfl rfl
@[simp] theorem moves_recordOutcome (h : Moves (lv + 1) s0 s) (n : NodeId) (r : Result) :
    Moves (lv + 1) s0 (s.recordOutcome n r) := by
  unfold State.recordOutcome
  try dsimp only
  repeat' split
  all_goals first | exact h | simp (contextual := true) (maxDischargeDepth := 40) [h, QueueLaw]
@[simp] theorem moves_requeue (h : Moves (lv + 1) s0 s) (n : NodeId) (v : Int) (u : Urgency) (refusals : Nat) (hq : s.bus.queued n = false) :
    Moves (lv + 1) s0 (s.requeue n v u refusals) := by
  unfold State.requeue
  exact moves_modBus (moves_modShadow h _ _) _ fun k => k.enqueue hq u v refusals
@[simp] theorem moves_commandOutcome (h : Moves (lv + 1) s0 s) (n : NodeId) (v : Int) (u : Urgency) (refusals : Nat) (lapsed : Bool) (o : BusOutcome) :
    Moves (lv + 1) s0 (s.commandOutcome n v u refusals lapsed o) := by
  unfold State.commandOutcome State.commandLost
  dsimp only
  split
  · exact moves_modShadow h _ _
  split
  · exact moves_modShadow h _ _
  rename_i hn
  have hn2 : s.bus.queued n = false := by simpa using hn
  split
  · exact moves_modShadow h _ _
  split
  · split
    · exact moves_modBus_quiet (moves_event (moves_modShadow h _ _) _ _ _) _ rfl rfl
    · exact moves_requeue h _ _ _ _ hn2
  · exact moves_requeue h _ _ _ _ hn2
@[simp] theorem moves_tableOutcome (h : Moves (lv + 1) s0 s) (f : Flight) (r : Result) :
    Moves (lv + 1) s0 (s.tableOutcome f r) := by
  unfold State.tableOutcome
  try dsimp only
  repeat' split
  all_goals first | exact h | simp (contextual := true) (maxDischargeDepth := 40) [h, QueueLaw]
@[simp] theorem moves_deliverRead (h : Moves (lv + 1) s0 s) (f : Flight) (r : Result) :
    Moves (lv + 1) s0 (s.deliverRead f r) := by
  unfold State.deliverRead
  try dsimp only
  repeat' split
  all_goals first | exact h | simp (contextual := true) (maxDischargeDepth := 40) [h, QueueLaw]
@[simp] theorem moves_emptyRound (h : Moves (lv + 1) s0 s) :
    Moves (lv + 1) s0 (s.emptyRound) := by
  unfold State.emptyRound
  try dsimp only
  repeat' split
  all_goals first | exact h | simp (contextual := true) (maxDischargeDepth := 40) [h, QueueLaw]
@[simp] theorem moves_beginRound (h : Moves (lv + 1) s0 s) :
    Moves (lv + 1) s0 (s.beginRound) := by
  unfold State.beginRound
  try dsimp only
  repeat' split
  all_goals first | exact h | simp (contextual := true) (maxDischargeDepth := 40) [h, QueueLaw]
@[simp] theorem moves_endRound (h : Moves (lv + 1) s0 s) :
    Moves (lv + 1) s0 (s.endRound) := by
  unfold State.endRound
  try dsimp only
  repeat' split
  all_goals first | exact h | simp (contextual := true) (maxDischargeDepth := 40) [h, QueueLaw]
@[simp] theorem moves_movePoller (h : Moves (lv + 1) s0 s) (f : Flight) :
    Moves (lv + 1) s0 (s.movePoller f) := by
  unfold State.movePoller
  try dsimp only
  repeat' split
  all_goals first | exact h | simp (contextual := true) (maxDischargeDepth := 40) [h, QueueLaw]
@[simp] theorem moves_answerPass (h : Moves (lv + 1) s0 s) (f : Flight) (r : Result) :
    Moves (lv + 1) s0 (s.answerPass f r) := by
  unfold State.answerPass
  try dsimp only
  repeat' split
  all_goals first | exact h | simp (contextual := true) (maxDischargeDepth := 40) [h, QueueLaw]
@[simp] theorem moves_settleCommand (h : Moves (lv + 1) s0 s) (f : Flight) (o : BusOutcome) :
    Moves (lv + 1) s0 (s.settleCommand f o) := by
  unfold State.settleCommand
  try dsimp only
  repeat' split
  all_goals first | exact h | simp (contextual := true) (maxDischargeDepth := 40) [h, QueueLaw]
@[simp] theorem moves_finish (h : Moves (lv + 1) s0 s) (f : Flight) (r : Result) :
    Moves (lv + 1) s0 (s.finish f r) := by
  unfold State.finish
  extract_lets s1 s2
  have h1 : Moves (lv + 1) s0 s1 := moves_countLineError (moves_modBus h _ (by simp [QueueLaw])) _
  have h2 : Moves (lv + 1) s0 s2 := moves_settleCommand (moves_recordOutcome h1 _ _) _ _
  exact moves_answerPass (moves_movePoller (moves_deliverRead (moves_tableOutcome h2 _ _) _ _) _) _ _
@[simp] theorem moves_finishBare (h : Moves (lv + 1) s0 s) (o : BusOutcome) :
    Moves (lv + 1) s0 (s.finishBare o) := by
  unfold State.finishBare
  try dsimp only
  repeat' split
  all_goals first | exact h | simp (contextual := true) (maxDischargeDepth := 40) [h, QueueLaw]
@[simp] theorem moves_replyBytes (h : Moves (lv + 1) s0 s) (bytes : List Byte) :
    Moves (lv + 1) s0 (s.replyBytes bytes) := by
  unfold State.replyBytes
  try dsimp only
  repeat' split
  all_goals first | exact h | simp (contextual := true) (maxDischargeDepth := 40) [h, QueueLaw]
@[simp] theorem moves_grantCommand (h : Moves (lv + 1) s0 s) (u : Urgency) (e : Entry) :
    Moves (lv + 1) s0 (s.grantCommand u e) := by
  unfold State.grantCommand
  exact moves_modBus (moves_modShadow h _ _) _ fun hq => hq.sub (unqueue_sublist _ _) (unqueue_sublist _ _)
@[simp] theorem moves_grantPass (h : Moves (lv + 1) s0 s) (r : PassReq) :
    Moves (lv + 1) s0 (s.grantPass r) := by
  unfold State.grantPass
  try dsimp only
  repeat' split
  all_goals first | exact h | simp (contextual := true) (maxDischargeDepth := 40) [h, QueueLaw]
@[simp] theorem moves_grantPoller (h : Moves (lv + 1) s0 s) (n : NodeId) (step : Nat) (kind : TxKind) (point : Nat) :
    Moves (lv + 1) s0 (s.grantPoller n step kind point) := by
  unfold State.grantPoller
  try dsimp only
  repeat' split
  all_goals first | exact h | simp (contextual := true) (maxDischargeDepth := 40) [h, QueueLaw]
@[simp] theorem moves_tidyRound (h : Moves (lv + 1) s0 s) :
    Moves (lv + 1) s0 (s.tidyRound) := by
  unfold State.tidyRound
  try dsimp only
  repeat' split
  all_goals first | exact h | simp (contextual := true) (maxDischargeDepth := 40) [h, QueueLaw]
@[simp] theorem moves_arbitrate (h : Moves (lv + 1) s0 s) :
    Moves (lv + 1) s0 (s.arbitrate) := by
  unfold State.arbitrate
  dsimp only
  split
  · exact moves_grantPoller h _ _ _ _
  split
  · exact moves_grantCommand h _ _
  split
  · exact moves_grantCommand h _ _
  split
  · exact moves_grantPass h _
  · exact moves_grantPoller h _ _ _ _
  · exact h
@[simp] theorem moves_grant (h : Moves (lv + 1) s0 s) :
    Moves (lv + 1) s0 (s.grant) := by
  unfold State.grant
  try dsimp only
  repeat' split
  all_goals first | exact h | simp (contextual := true) (maxDischargeDepth := 40) [h, QueueLaw]
@[simp] theorem moves_dropOwnerEntries (h : Moves (lv + 1) s0 s) :
    Moves (lv + 1) s0 (s.dropOwnerEntries) := by
  unfold State.dropOwnerEntries
  exact moves_modBus (moves_forEach h _ _ fun e t ht => moves_modShadow ht _ _) _ fun _ => by simp [QueueLaw]
@[simp] theorem moves_forgetNode (h : Moves (lv + 1) s0 s) (n : NodeId) :
    Moves (lv + 1) s0 (s.forgetNode n) := by
  unfold State.forgetNode
  exact moves_modShadow (moves_allAbsent (moves_modNode h _ _) _) _ _

end

end Sys2Proof.Machine
end

