-- ==== Sys2Proof/Laws/MovesRequests.lean ====
section
/-! SUPPORT. Requests act by moves. -/

namespace Sys2Proof.Machine

set_option linter.unusedTactic false
set_option linter.unusedSimpArgs false
set_option linter.unreachableTactic false

/-! ## Reports given to owners -/

section
variable {lv : Nat} {s0 s : State}

@[simp] theorem moves_deliverN (k : Nat) (h : Moves (lv + 1) s0 s) : Moves (lv + 1) s0 (State.deliverN k s) := by
  induction k generalizing s with
  | zero => exact moves_modBus_quiet h _ rfl rfl
  | succ k ih =>
    unfold State.deliverN
    split
    · exact h
    · exact ih (moves_giveLost (moves_modBus_quiet h _ rfl rfl) _)

@[simp] theorem moves_deliverLost (h : Moves (lv + 1) s0 s) : Moves (lv + 1) s0 s.deliverLost := moves_deliverN _ h

end

/-! ## Results of requests -/

/-- A request's result is reached by moves. -/
def ReqMoves (lv : Nat) (s : State) : ReqResult → Prop
  | .refuse _ => True
  | .done t _ => Moves lv s t
  | .deferred t => Moves lv s t

section
variable {lv : Nat} {s t : State} {go : ReqResult}

@[simp] theorem reqMoves_refuse (r : Reply) : ReqMoves lv s (.refuse r) := trivial
@[simp] theorem reqMoves_done (h : Moves lv s t) (r : Reply) : ReqMoves lv s (.done t r) := h
@[simp] theorem reqMoves_deferred (h : Moves lv s t) : ReqMoves lv s (.deferred t) := h
@[simp] theorem reqMoves_checked (h : ReqMoves lv s go) (f : Option String) : ReqMoves lv s (checked f go) := by
  unfold checked
  split
  · trivial
  · exact h
@[simp] theorem reqMoves_refusedIf (h : ReqMoves lv s go) (b : Bool) (r : Reply) : ReqMoves lv s (refusedIf b r go) := by
  unfold refusedIf
  split
  · trivial
  · exact h
@[simp] theorem reqMoves_withSome {α : Type} (k : String) (x : Option α) {f : α → ReqResult}
    (h : ∀ a, ReqMoves lv s (f a)) : ReqMoves lv s (withSome k x f) := by
  unfold withSome
  split
  · exact h _
  · trivial
@[simp] theorem reqMoves_group (h : ReqMoves lv s go) (cs : List CoilId) (bad : CoilId → Bool) :
    ReqMoves lv s (groupRequest cs bad go) := by
  unfold groupRequest
  dsimp only
  split
  · exact h
  · trivial
@[simp] theorem reqMoves_passes {α : Type} (h : ReqMoves lv s go) (cols : List (Col α)) (args : List Arg) (x : Option String)
    (bad : String → Bool) : ReqMoves lv s (s.passes cols args x bad go) := by
  unfold State.passes refusedAt
  refine reqMoves_checked ?_ _
  repeat' split
  all_goals first | exact h | trivial

theorem ReqMoves.mono {lw : Nat} (hk : lv ≤ lw) {r : ReqResult} (h : ReqMoves lv s r) : ReqMoves lw s r := by
  cases r with
  | refuse _ => trivial
  | done t r => exact Moves.mono hk h
  | deferred t => exact Moves.mono hk h

end

/-! ## The requests -/

section
variable {lv : Nat} {s0 s : State}

theorem Plan.isLive_put {p : Plan} {i : SlotId} (h : p.isLive i = false) (g : Segment) (hp : PlanLaw p) :
    PlanLaw { p with slots := p.slots.set i (some g) } := by
  refine ⟨fun j hj => ?_, hp.holding, hp.stopped⟩
  have k := hp.filled j hj
  by_cases e : i.val = j.val
  · simp [e]
  · simpa [Vector.getElem_set, e] using k

theorem PlanLaw.toActive {p : Plan} (h : PlanLaw p) (hst : p.state ≠ .empty) : PlanLaw { p with state := .active } := by
  refine ⟨fun i hi => h.filled i ?_, fun x => by simp at x, fun x => by simp at x⟩
  simp only [Plan.isLive, Bool.and_eq_true] at hi ⊢
  exact ⟨by simp [hst], hi.2⟩
theorem Plan.pause_eq (p : Plan) : p.pause = { p with state := .paused, elapsed := p.frozenElapsed } := by
  unfold Plan.pause Plan.frozenElapsed Plan.endsAt
  cases h : (p.slots)[p.cur] with
  | none => rfl
  | some g =>
    by_cases h0 : g.duration = 0
    · simp [h0]
    · simp only [h0, if_false]
      congr 1
      split <;> omega

theorem PlanLaw.toPaused {p : Plan} (h : PlanLaw p) (hst : p.state ≠ .empty) : PlanLaw p.pause := by
  refine ⟨fun i hi => h.filled i ?_, fun x => by simp at x, fun x => by simp at x⟩
  simp only [Plan.isLive, Bool.and_eq_true, Plan.pause_cur, Plan.pause_last] at hi ⊢
  exact ⟨by simp [hst], hi.2⟩

@[simp] theorem moves_reqPlanPut (args : List Arg) (s : State) : ReqMoves lv s (reqPlanPut args s) := by
  unfold reqPlanPut
  refine reqMoves_checked (reqMoves_withSome _ _ fun l => ?_) _
  refine reqMoves_refusedIf ?_ _ _
  unfold refusedIf
  split
  · trivial
  · exact moves_modPlan moves_refl _ _ fun hp => Plan.isLive_put (eq_false_of_ne_true ‹_›) _ hp
@[simp] theorem moves_reqPlanGet (args : List Arg) (s : State) : ReqMoves lv s (reqPlanGet args s) := by
  unfold reqPlanGet
  repeat' (first | refine reqMoves_checked ?_ _ | refine reqMoves_withSome _ _ fun a => ?_ | refine reqMoves_refusedIf ?_ _ _ |
    refine reqMoves_group ?_ _ _ | refine reqMoves_passes ?_ _ _ _ _ | exact trivial | split | intro)
  all_goals first | exact reqMoves_done moves_refl _ | simp (contextual := true) (maxDischargeDepth := 40)
@[simp] theorem moves_reqPlanCommit (args : List Arg) (s : State) : ReqMoves lv s (reqPlanCommit args s) := by
  unfold reqPlanCommit
  refine reqMoves_checked (reqMoves_withSome _ _ fun l => ?_) _
  unfold refusedIf
  dsimp only
  split
  · trivial
  rename_i hl
  split
  · trivial
  rename_i hf
  by_cases he : (s.plans[l]).state = .empty
  · rw [if_pos he] at hf ⊢
    exact moves_firstCommit moves_refl _ _ hf
  · rw [if_neg he] at hf ⊢
    exact moves_extendPlan moves_refl _ _ he (eq_false_of_ne_true hl) hf
@[simp] theorem moves_reqPlanRun (args : List Arg) (s : State) : ReqMoves lv s (reqPlanRun args s) := by
  unfold reqPlanRun
  refine reqMoves_checked (reqMoves_withSome _ _ fun l => ?_) _
  split
  · trivial
  · rename_i he
    exact moves_modPlan moves_refl _ _ fun hp => hp.toActive (by rw [he]; decide)
  · exact moves_refl
  · exact moves_refl
  · rename_i he
    unfold State.releaseStopped
    dsimp only
    split
    · exact moves_endSegment moves_refl _ _ _ _ (fun hp => hp.stopped he) (by rw [he]; decide) (Or.inl rfl)
    · trivial
@[simp] theorem moves_reqPlanPause (args : List Arg) (s : State) : ReqMoves lv s (reqPlanPause args s) := by
  unfold reqPlanPause
  refine reqMoves_checked (reqMoves_withSome _ _ fun l => ?_) _
  refine reqMoves_done ?_ _
  split
  · rename_i he
    exact moves_modPlan moves_refl _ _ fun hp => hp.toPaused (by rw [he]; decide)
  · exact moves_refl
@[simp] theorem moves_reqPlanSkip (args : List Arg) (s : State) : ReqMoves lv s (reqPlanSkip args s) := by
  unfold reqPlanSkip
  refine reqMoves_checked (reqMoves_withSome _ _ fun l => ?_) _
  unfold refusedIf
  dsimp only
  split
  · trivial
  · rename_i hst
    refine moves_skipSegment moves_refl _ ?_
    by_contra hc
    apply hst
    simpa [not_or] using hc
@[simp] theorem moves_reqPlanClear (args : List Arg) (s : State) : ReqMoves lv s (reqPlanClear args s) := by
  unfold reqPlanClear
  refine reqMoves_checked (reqMoves_withSome _ _ fun l => ?_) _
  refine reqMoves_refusedIf (reqMoves_done ?_ _) _ _
  exact moves_refanLoop (moves_modPlan moves_refl _ _ fun _ => PlanLaw.blank) _ _
@[simp] theorem moves_reqPlanState (args : List Arg) (s : State) : ReqMoves lv s (reqPlanState args s) := by
  unfold reqPlanState
  repeat' (first | refine reqMoves_checked ?_ _ | refine reqMoves_withSome _ _ fun a => ?_ | refine reqMoves_refusedIf ?_ _ _ |
    refine reqMoves_group ?_ _ _ | refine reqMoves_passes ?_ _ _ _ _ | exact trivial | split | intro)
  all_goals first | exact reqMoves_done moves_refl _ | simp (contextual := true) (maxDischargeDepth := 40)
@[simp] theorem moves_reqBusPass (args : List Arg) (s : State) : ReqMoves (lv + 1) s (reqBusPass args s) := by
  unfold reqBusPass
  repeat' (first | refine reqMoves_checked ?_ _ | refine reqMoves_withSome _ _ fun a => ?_ | refine reqMoves_refusedIf ?_ _ _ |
    refine reqMoves_group ?_ _ _ | refine reqMoves_passes ?_ _ _ _ _ | exact trivial | split | intro)
  all_goals first | exact reqMoves_done moves_refl _ | simp (contextual := true) (maxDischargeDepth := 40)
@[simp] theorem moves_reqNodeState (args : List Arg) (s : State) : ReqMoves lv s (reqNodeState args s) := by
  unfold reqNodeState
  repeat' (first | refine reqMoves_checked ?_ _ | refine reqMoves_withSome _ _ fun a => ?_ | refine reqMoves_refusedIf ?_ _ _ |
    refine reqMoves_group ?_ _ _ | refine reqMoves_passes ?_ _ _ _ _ | exact trivial | split | intro)
  all_goals first | exact reqMoves_done moves_refl _ | simp (contextual := true) (maxDischargeDepth := 40)
@[simp] theorem moves_reqBusState (args : List Arg) (s : State) : ReqMoves lv s (reqBusState args s) := by
  unfold reqBusState
  repeat' (first | refine reqMoves_checked ?_ _ | refine reqMoves_withSome _ _ fun a => ?_ | refine reqMoves_refusedIf ?_ _ _ |
    refine reqMoves_group ?_ _ _ | refine reqMoves_passes ?_ _ _ _ _ | exact trivial | split | intro)
  all_goals first | exact reqMoves_done moves_refl _ | simp (contextual := true) (maxDischargeDepth := 40)
@[simp] theorem moves_restartRotation (h : Moves lv s0 s) (l : LoopId) :
    Moves lv s0 (s.restartRotation l) := by
  unfold State.restartRotation
  try dsimp only
  repeat' split
  all_goals first | exact h | simp (contextual := true) (maxDischargeDepth := 40) [h]
@[simp] theorem moves_moveRoster (h : Moves lv s0 s) (c : CoilId) (old new : Option LoopId) :
    Moves lv s0 (s.moveRoster c old new) := by
  unfold State.moveRoster
  try dsimp only
  repeat' split
  all_goals first | exact h | simp (contextual := true) (maxDischargeDepth := 40) [h]
@[simp] theorem moves_resummariseOpt (h : Moves lv s0 s) (l : Option LoopId) :
    Moves lv s0 (s.resummariseOpt l) := by
  unfold State.resummariseOpt
  try dsimp only
  repeat' split
  all_goals first | exact h | simp (contextual := true) (maxDischargeDepth := 40) [h]
@[simp] theorem moves_setCoilRec (h : Moves lv s0 s) (c : CoilId) (r : CoilRec) :
    Moves lv s0 (s.setCoilRec c r) := by
  unfold State.setCoilRec
  try dsimp only
  repeat' split
  all_goals first | exact h | simp (contextual := true) (maxDischargeDepth := 40) [h]
@[simp] theorem moves_setSite (h : Moves (lv + 2) s0 s) (r : SiteRec) :
    Moves (lv + 2) s0 (s.setSite r) := by
  unfold State.setSite
  try dsimp only
  repeat' split
  all_goals first | exact h | simp (contextual := true) (maxDischargeDepth := 40) [h]
@[simp] theorem moves_setNodeRec (h : Moves (lv + 2) s0 s) (n : NodeId) (r : NodeRec) :
    Moves (lv + 2) s0 (s.setNodeRec n r) := by
  unfold State.setNodeRec
  exact moves_ite (moves_ite (moves_modNode (lv := lv + 1) h _ _) h)
    (moves_forgetNode (lv := lv + 1) (moves_modCfg h _) _)
@[simp] theorem moves_setLoopRec (h : Moves (lv + 2) s0 s) (l : LoopId) (r : LoopRec) :
    Moves (lv + 2) s0 (s.setLoopRec l r) := by
  unfold State.setLoopRec
  refine moves_oneEvent h _ fun s h => ?_
  extract_lets old s1 s2 s3 s4
  have h1 : Moves (lv + 2) s0 s1 := moves_modCfg h _
  have h2 : Moves (lv + 2) s0 s2 := moves_ite h1 (moves_reclassifyLoop h1 _)
  have h3 : Moves (lv + 2) s0 s3 := moves_ite h2 (moves_refanLoop h2 _ _)
  have h4 : Moves (lv + 2) s0 s4 := moves_ite h3 (moves_restartRotation h3 _)
  exact moves_ite h4 (moves_serveKw h4 _)
@[simp] theorem moves_reqSiteGet (args : List Arg) (s : State) : ReqMoves lv s (reqSiteGet args s) := by
  unfold reqSiteGet
  repeat' (first | refine reqMoves_checked ?_ _ | refine reqMoves_withSome _ _ fun a => ?_ | refine reqMoves_refusedIf ?_ _ _ |
    refine reqMoves_group ?_ _ _ | refine reqMoves_passes ?_ _ _ _ _ | exact trivial | split | intro)
  all_goals first | exact reqMoves_done moves_refl _ | simp (contextual := true) (maxDischargeDepth := 40)
@[simp] theorem moves_reqSiteSet (args : List Arg) (s : State) : ReqMoves (lv + 2) s (reqSiteSet args s) := by
  unfold reqSiteSet
  repeat' (first | refine reqMoves_checked ?_ _ | refine reqMoves_withSome _ _ fun a => ?_ | refine reqMoves_refusedIf ?_ _ _ |
    refine reqMoves_group ?_ _ _ | refine reqMoves_passes ?_ _ _ _ _ | exact trivial | split | intro)
  all_goals first | exact reqMoves_done moves_refl _ | simp (contextual := true) (maxDischargeDepth := 40)
@[simp] theorem moves_reqNodeGet (args : List Arg) (s : State) : ReqMoves lv s (reqNodeGet args s) := by
  unfold reqNodeGet
  repeat' (first | refine reqMoves_checked ?_ _ | refine reqMoves_withSome _ _ fun a => ?_ | refine reqMoves_refusedIf ?_ _ _ |
    refine reqMoves_group ?_ _ _ | refine reqMoves_passes ?_ _ _ _ _ | exact trivial | split | intro)
  all_goals first | exact reqMoves_done moves_refl _ | simp (contextual := true) (maxDischargeDepth := 40)
@[simp] theorem moves_reqNodeSet (args : List Arg) (s : State) : ReqMoves (lv + 2) s (reqNodeSet args s) := by
  unfold reqNodeSet
  repeat' (first | refine reqMoves_checked ?_ _ | refine reqMoves_withSome _ _ fun a => ?_ | refine reqMoves_refusedIf ?_ _ _ |
    refine reqMoves_group ?_ _ _ | refine reqMoves_passes ?_ _ _ _ _ | exact trivial | split | intro)
  all_goals first | exact reqMoves_done moves_refl _ | simp (contextual := true) (maxDischargeDepth := 40)
@[simp] theorem moves_reqLoopGet (args : List Arg) (s : State) : ReqMoves lv s (reqLoopGet args s) := by
  unfold reqLoopGet
  repeat' (first | refine reqMoves_checked ?_ _ | refine reqMoves_withSome _ _ fun a => ?_ | refine reqMoves_refusedIf ?_ _ _ |
    refine reqMoves_group ?_ _ _ | refine reqMoves_passes ?_ _ _ _ _ | exact trivial | split | intro)
  all_goals first | exact reqMoves_done moves_refl _ | simp (contextual := true) (maxDischargeDepth := 40)
@[simp] theorem moves_reqLoopSet (args : List Arg) (s : State) : ReqMoves (lv + 2) s (reqLoopSet args s) := by
  unfold reqLoopSet
  repeat' (first | refine reqMoves_checked ?_ _ | refine reqMoves_withSome _ _ fun a => ?_ | refine reqMoves_refusedIf ?_ _ _ |
    refine reqMoves_group ?_ _ _ | refine reqMoves_passes ?_ _ _ _ _ | exact trivial | split | intro)
  all_goals first | exact reqMoves_done moves_refl _ | simp (contextual := true) (maxDischargeDepth := 40)
@[simp] theorem moves_reqCoilGet (args : List Arg) (s : State) : ReqMoves lv s (reqCoilGet args s) := by
  unfold reqCoilGet
  repeat' (first | refine reqMoves_checked ?_ _ | refine reqMoves_withSome _ _ fun a => ?_ | refine reqMoves_refusedIf ?_ _ _ |
    refine reqMoves_group ?_ _ _ | refine reqMoves_passes ?_ _ _ _ _ | exact trivial | split | intro)
  all_goals first | exact reqMoves_done moves_refl _ | simp (contextual := true) (maxDischargeDepth := 40)
@[simp] theorem moves_reqCoilSet (args : List Arg) (s : State) : ReqMoves lv s (reqCoilSet args s) := by
  unfold reqCoilSet
  repeat' (first | refine reqMoves_checked ?_ _ | refine reqMoves_withSome _ _ fun a => ?_ | refine reqMoves_refusedIf ?_ _ _ |
    refine reqMoves_group ?_ _ _ | refine reqMoves_passes ?_ _ _ _ _ | exact trivial | split | intro)
  all_goals first | exact reqMoves_done moves_refl _ | simp (contextual := true) (maxDischargeDepth := 40)
@[simp] theorem moves_reqPumpSwap (args : List Arg) (s : State) : ReqMoves lv s (reqPumpSwap args s) := by
  unfold reqPumpSwap
  repeat' (first | refine reqMoves_checked ?_ _ | refine reqMoves_withSome _ _ fun a => ?_ | refine reqMoves_refusedIf ?_ _ _ |
    refine reqMoves_group ?_ _ _ | refine reqMoves_passes ?_ _ _ _ _ | exact trivial | split | intro)
  all_goals first | exact reqMoves_done moves_refl _ | simp (contextual := true) (maxDischargeDepth := 40)
@[simp] theorem moves_reqPumpClear (args : List Arg) (s : State) : ReqMoves lv s (reqPumpClear args s) := by
  unfold reqPumpClear
  repeat' (first | refine reqMoves_checked ?_ _ | refine reqMoves_withSome _ _ fun a => ?_ | refine reqMoves_refusedIf ?_ _ _ |
    refine reqMoves_group ?_ _ _ | refine reqMoves_passes ?_ _ _ _ _ | exact trivial | split | intro)
  all_goals first | exact reqMoves_done moves_refl _ | simp (contextual := true) (maxDischargeDepth := 40)
@[simp] theorem moves_reqLoopState (args : List Arg) (s : State) : ReqMoves lv s (reqLoopState args s) := by
  unfold reqLoopState
  repeat' (first | refine reqMoves_checked ?_ _ | refine reqMoves_withSome _ _ fun a => ?_ | refine reqMoves_refusedIf ?_ _ _ |
    refine reqMoves_group ?_ _ _ | refine reqMoves_passes ?_ _ _ _ _ | exact trivial | split | intro)
  all_goals first | exact reqMoves_done moves_refl _ | simp (contextual := true) (maxDischargeDepth := 40)
theorem moves_onLoopOf (h : Moves lv s0 s) (c : CoilId) {f : LoopId → State} (hf : ∀ l, Moves lv s0 (f l)) :
    Moves lv s0 (s.onLoopOf c f) := by
  unfold State.onLoopOf
  split
  · exact hf _
  · exact h
@[simp] theorem moves_reqRosterGet (args : List Arg) (s : State) : ReqMoves lv s (reqRosterGet args s) := by
  unfold reqRosterGet
  repeat' (first | refine reqMoves_checked ?_ _ | refine reqMoves_withSome _ _ fun a => ?_ | refine reqMoves_refusedIf ?_ _ _ |
    refine reqMoves_group ?_ _ _ | refine reqMoves_passes ?_ _ _ _ _ | exact trivial | split | intro)
  all_goals first | exact reqMoves_done moves_refl _ | simp (contextual := true) (maxDischargeDepth := 40)
@[simp] theorem moves_reqRosterOrder (args : List Arg) (s : State) : ReqMoves lv s (reqRosterOrder args s) := by
  unfold reqRosterOrder
  repeat' (first | refine reqMoves_checked ?_ _ | refine reqMoves_withSome _ _ fun a => ?_ | refine reqMoves_refusedIf ?_ _ _ |
    refine reqMoves_group ?_ _ _ | refine reqMoves_passes ?_ _ _ _ _ | exact trivial | split | intro)
  all_goals first | exact reqMoves_done moves_refl _ | simp (contextual := true) (maxDischargeDepth := 40)
@[simp] theorem moves_reqRosterRotate (args : List Arg) (s : State) : ReqMoves lv s (reqRosterRotate args s) := by
  unfold reqRosterRotate
  repeat' (first | refine reqMoves_checked ?_ _ | refine reqMoves_withSome _ _ fun a => ?_ | refine reqMoves_refusedIf ?_ _ _ |
    refine reqMoves_group ?_ _ _ | refine reqMoves_passes ?_ _ _ _ _ | exact trivial | split | intro)
  all_goals first | exact reqMoves_done moves_refl _ | simp (contextual := true) (maxDischargeDepth := 40)
@[simp] theorem moves_reqCoilAdmit (args : List Arg) (s : State) : ReqMoves lv s (reqCoilAdmit args s) := by
  unfold reqCoilAdmit
  repeat' (first | refine reqMoves_checked ?_ _ | refine reqMoves_withSome _ _ fun a => ?_ | refine reqMoves_refusedIf ?_ _ _ |
    refine reqMoves_group ?_ _ _ | refine reqMoves_passes ?_ _ _ _ _ | exact trivial | split | intro)
  all_goals first | exact reqMoves_done moves_refl _ | simp (contextual := true) (maxDischargeDepth := 40)
@[simp] theorem moves_reqCoilRetire (args : List Arg) (s : State) : ReqMoves lv s (reqCoilRetire args s) := by
  unfold reqCoilRetire
  refine reqMoves_checked (reqMoves_withSome _ _ fun c => ?_) _
  split
  · trivial
  · exact reqMoves_refusedIf (reqMoves_done (moves_startRetire moves_refl _ _ _) _) _ _
@[simp] theorem moves_reqCoilClear (args : List Arg) (s : State) : ReqMoves lv s (reqCoilClear args s) := by
  unfold reqCoilClear
  repeat' (first | refine reqMoves_checked ?_ _ | refine reqMoves_withSome _ _ fun a => ?_ | refine reqMoves_refusedIf ?_ _ _ |
    refine reqMoves_group ?_ _ _ | refine reqMoves_passes ?_ _ _ _ _ | exact trivial | split | intro)
  all_goals first | exact reqMoves_done moves_refl _ | simp (contextual := true) (maxDischargeDepth := 40)
@[simp] theorem moves_reqCoilState (args : List Arg) (s : State) : ReqMoves lv s (reqCoilState args s) := by
  unfold reqCoilState
  repeat' (first | refine reqMoves_checked ?_ _ | refine reqMoves_withSome _ _ fun a => ?_ | refine reqMoves_refusedIf ?_ _ _ |
    refine reqMoves_group ?_ _ _ | refine reqMoves_passes ?_ _ _ _ _ | exact trivial | split | intro)
  all_goals first | exact reqMoves_done moves_refl _ | simp (contextual := true) (maxDischargeDepth := 40)
@[simp] theorem moves_reqFrostState (args : List Arg) (s : State) : ReqMoves lv s (reqFrostState args s) := by
  unfold reqFrostState
  repeat' (first | refine reqMoves_checked ?_ _ | refine reqMoves_withSome _ _ fun a => ?_ | refine reqMoves_refusedIf ?_ _ _ |
    refine reqMoves_group ?_ _ _ | refine reqMoves_passes ?_ _ _ _ _ | exact trivial | split | intro)
  all_goals first | exact reqMoves_done moves_refl _ | simp (contextual := true) (maxDischargeDepth := 40)
@[simp] theorem moves_outCoils (h : Moves lv s0 s) (cs : List CoilId) :
    Moves lv s0 (s.outCoils cs) := by
  unfold State.outCoils
  exact moves_wholeRequest h _ fun s h => moves_forEach (moves_forEach h _ _ fun l t ht => moves_tellLast ht _ _) _ _
    fun c t ht => moves_onLoopOf ht c fun l => moves_coilOut ht c l
@[simp] theorem moves_setLimits (h : Moves lv s0 s) (c : CoilId) (lo hi : Nat) :
    Moves lv s0 (s.setLimits c lo hi) := by
  unfold State.setLimits
  try dsimp only
  repeat' split
  all_goals first | exact h | simp (contextual := true) (maxDischargeDepth := 40) [h]
@[simp] theorem moves_makeOverride (h : Moves lv s0 s) (c : CoilId) (o : Override) :
    Moves lv s0 (s.makeOverride c o) := by
  unfold State.makeOverride
  try dsimp only
  repeat' split
  all_goals first | exact h | simp (contextual := true) (maxDischargeDepth := 40) [h]
@[simp] theorem moves_dropOverride (h : Moves lv s0 s) (c : CoilId) (detail : String) :
    Moves lv s0 (s.dropOverride c detail) := by
  unfold State.dropOverride
  try dsimp only
  repeat' split
  all_goals first | exact h | simp (contextual := true) (maxDischargeDepth := 40) [h]
@[simp] theorem moves_overrideExpired (h : Moves lv s0 s) (c : CoilId) :
    Moves lv s0 (s.overrideExpired c) := by
  unfold State.overrideExpired
  try dsimp only
  repeat' split
  all_goals first | exact h | simp (contextual := true) (maxDischargeDepth := 40) [h]
@[simp] theorem moves_reqCoilOut (args : List Arg) (s : State) : ReqMoves lv s (reqCoilOut args s) := by
  unfold reqCoilOut
  repeat' (first | refine reqMoves_checked ?_ _ | refine reqMoves_withSome _ _ fun a => ?_ | refine reqMoves_refusedIf ?_ _ _ |
    refine reqMoves_group ?_ _ _ | refine reqMoves_passes ?_ _ _ _ _ | exact trivial | split | intro)
  all_goals first | exact reqMoves_done moves_refl _ | simp (contextual := true) (maxDischargeDepth := 40)
@[simp] theorem moves_reqCoilIn (args : List Arg) (s : State) : ReqMoves lv s (reqCoilIn args s) := by
  unfold reqCoilIn
  refine reqMoves_checked (reqMoves_group (reqMoves_done ?_ _) _ _) _
  exact moves_wholeRequest moves_refl _ fun s h => moves_forEach h _ _ fun c t ht =>
    moves_onLoopOf ht c fun l => moves_coilIn ht c l
@[simp] theorem moves_reqCoilAmend (args : List Arg) (s : State) : ReqMoves lv s (reqCoilAmend args s) := by
  unfold reqCoilAmend
  repeat' (first | refine reqMoves_checked ?_ _ | refine reqMoves_withSome _ _ fun a => ?_ | refine reqMoves_refusedIf ?_ _ _ |
    refine reqMoves_group ?_ _ _ | refine reqMoves_passes ?_ _ _ _ _ | exact trivial | split | intro)
  all_goals first | exact reqMoves_done moves_refl _ | simp (contextual := true) (maxDischargeDepth := 40)
@[simp] theorem moves_reqCoilLimits (args : List Arg) (s : State) : ReqMoves lv s (reqCoilLimits args s) := by
  unfold reqCoilLimits
  repeat' (first | refine reqMoves_checked ?_ _ | refine reqMoves_withSome _ _ fun a => ?_ | refine reqMoves_refusedIf ?_ _ _ |
    refine reqMoves_group ?_ _ _ | refine reqMoves_passes ?_ _ _ _ _ | exact trivial | split | intro)
  all_goals first | exact reqMoves_done moves_refl _ | simp (contextual := true) (maxDischargeDepth := 40)
@[simp] theorem moves_reqCoilMatch (args : List Arg) (s : State) : ReqMoves lv s (reqCoilMatch args s) := by
  unfold reqCoilMatch
  repeat' (first | refine reqMoves_checked ?_ _ | refine reqMoves_withSome _ _ fun a => ?_ | refine reqMoves_refusedIf ?_ _ _ |
    refine reqMoves_group ?_ _ _ | refine reqMoves_passes ?_ _ _ _ _ | exact trivial | split | intro)
  all_goals first | exact reqMoves_done moves_refl _ | simp (contextual := true) (maxDischargeDepth := 40)
@[simp] theorem moves_reqOverrideSet (args : List Arg) (s : State) : ReqMoves lv s (reqOverrideSet args s) := by
  unfold reqOverrideSet
  repeat' (first | refine reqMoves_checked ?_ _ | refine reqMoves_withSome _ _ fun a => ?_ | refine reqMoves_refusedIf ?_ _ _ |
    refine reqMoves_group ?_ _ _ | refine reqMoves_passes ?_ _ _ _ _ | exact trivial | split | intro)
  all_goals first | exact reqMoves_done moves_refl _ | simp (contextual := true) (maxDischargeDepth := 40)
@[simp] theorem moves_reqOverrideClear (args : List Arg) (s : State) : ReqMoves lv s (reqOverrideClear args s) := by
  unfold reqOverrideClear
  repeat' (first | refine reqMoves_checked ?_ _ | refine reqMoves_withSome _ _ fun a => ?_ | refine reqMoves_refusedIf ?_ _ _ |
    refine reqMoves_group ?_ _ _ | refine reqMoves_passes ?_ _ _ _ _ | exact trivial | split | intro)
  all_goals first | exact reqMoves_done moves_refl _ | simp (contextual := true) (maxDischargeDepth := 40)
@[simp] theorem moves_reqOverrideList (args : List Arg) (s : State) : ReqMoves lv s (reqOverrideList args s) := by
  unfold reqOverrideList
  repeat' (first | refine reqMoves_checked ?_ _ | refine reqMoves_withSome _ _ fun a => ?_ | refine reqMoves_refusedIf ?_ _ _ |
    refine reqMoves_group ?_ _ _ | refine reqMoves_passes ?_ _ _ _ _ | exact trivial | split | intro)
  all_goals first | exact reqMoves_done moves_refl _ | simp (contextual := true) (maxDischargeDepth := 40)
@[simp] theorem moves_setChanRec (h : Moves (lv + 2) s0 s) (p : ChanId) (r : ChanRec) :
    Moves (lv + 2) s0 (s.setChanRec p r) := by
  unfold State.setChanRec
  try dsimp only
  repeat' split
  all_goals first | exact h | simp (contextual := true) (maxDischargeDepth := 40) [h]
@[simp] theorem moves_setInputRec (h : Moves (lv + 2) s0 s) (i : InputId) (r : InputRec) :
    Moves (lv + 2) s0 (s.setInputRec i r) := by
  unfold State.setInputRec
  try dsimp only
  repeat' split
  all_goals first | exact h | simp (contextual := true) (maxDischargeDepth := 40) [h]
@[simp] theorem moves_reqPulseSet (args : List Arg) (s : State) : ReqMoves (lv + 2) s (reqPulseSet args s) := by
  unfold reqPulseSet
  repeat' (first | refine reqMoves_checked ?_ _ | refine reqMoves_withSome _ _ fun a => ?_ | refine reqMoves_refusedIf ?_ _ _ |
    refine reqMoves_group ?_ _ _ | refine reqMoves_passes ?_ _ _ _ _ | exact trivial | split | intro)
  all_goals first | exact reqMoves_done moves_refl _ | simp (contextual := true) (maxDischargeDepth := 40)
@[simp] theorem moves_reqPulseGet (args : List Arg) (s : State) : ReqMoves lv s (reqPulseGet args s) := by
  unfold reqPulseGet
  repeat' (first | refine reqMoves_checked ?_ _ | refine reqMoves_withSome _ _ fun a => ?_ | refine reqMoves_refusedIf ?_ _ _ |
    refine reqMoves_group ?_ _ _ | refine reqMoves_passes ?_ _ _ _ _ | exact trivial | split | intro)
  all_goals first | exact reqMoves_done moves_refl _ | simp (contextual := true) (maxDischargeDepth := 40)
@[simp] theorem moves_reqPulseState (args : List Arg) (s : State) : ReqMoves lv s (reqPulseState args s) := by
  unfold reqPulseState
  repeat' (first | refine reqMoves_checked ?_ _ | refine reqMoves_withSome _ _ fun a => ?_ | refine reqMoves_refusedIf ?_ _ _ |
    refine reqMoves_group ?_ _ _ | refine reqMoves_passes ?_ _ _ _ _ | exact trivial | split | intro)
  all_goals first | exact reqMoves_done moves_refl _ | simp (contextual := true) (maxDischargeDepth := 40)
@[simp] theorem moves_reqInputSet (args : List Arg) (s : State) : ReqMoves (lv + 2) s (reqInputSet args s) := by
  unfold reqInputSet
  repeat' (first | refine reqMoves_checked ?_ _ | refine reqMoves_withSome _ _ fun a => ?_ | refine reqMoves_refusedIf ?_ _ _ |
    refine reqMoves_group ?_ _ _ | refine reqMoves_passes ?_ _ _ _ _ | exact trivial | split | intro)
  all_goals first | exact reqMoves_done moves_refl _ | simp (contextual := true) (maxDischargeDepth := 40)
@[simp] theorem moves_reqInputGet (args : List Arg) (s : State) : ReqMoves lv s (reqInputGet args s) := by
  unfold reqInputGet
  repeat' (first | refine reqMoves_checked ?_ _ | refine reqMoves_withSome _ _ fun a => ?_ | refine reqMoves_refusedIf ?_ _ _ |
    refine reqMoves_group ?_ _ _ | refine reqMoves_passes ?_ _ _ _ _ | exact trivial | split | intro)
  all_goals first | exact reqMoves_done moves_refl _ | simp (contextual := true) (maxDischargeDepth := 40)
@[simp] theorem moves_reqInputState (args : List Arg) (s : State) : ReqMoves lv s (reqInputState args s) := by
  unfold reqInputState
  repeat' (first | refine reqMoves_checked ?_ _ | refine reqMoves_withSome _ _ fun a => ?_ | refine reqMoves_refusedIf ?_ _ _ |
    refine reqMoves_group ?_ _ _ | refine reqMoves_passes ?_ _ _ _ _ | exact trivial | split | intro)
  all_goals first | exact reqMoves_done moves_refl _ | simp (contextual := true) (maxDischargeDepth := 40)
@[simp] theorem moves_reqOutdoorSet (args : List Arg) (s : State) : ReqMoves lv s (reqOutdoorSet args s) := by
  unfold reqOutdoorSet
  repeat' (first | refine reqMoves_checked ?_ _ | refine reqMoves_withSome _ _ fun a => ?_ | refine reqMoves_refusedIf ?_ _ _ |
    refine reqMoves_group ?_ _ _ | refine reqMoves_passes ?_ _ _ _ _ | exact trivial | split | intro)
  all_goals first | exact reqMoves_done moves_refl _ | simp (contextual := true) (maxDischargeDepth := 40)
/-! ## The trace law under what requests do (R176, R177) -/

theorem Trace.half_setHalf (t : Trace) (h : HalfId) (x : Half) : (t.setHalf h x).half h = x := by cases h <;> rfl
theorem Trace.half_setHalf_other (t : Trace) (h : HalfId) (x : Half) : (t.setHalf h x).half h.other = t.half h.other := by
  cases h <;> rfl

theorem nextSerial_range {n : Nat} (h : 1 ≤ n ∧ n ≤ Config.countMax) : 1 ≤ nextSerial n ∧ nextSerial n ≤ Config.countMax := by
  unfold nextSerial
  split
  · exact ⟨by omega, by decide⟩
  · exact ⟨by omega, by unfold Config.countMax at *; omega⟩

theorem halfLaw_half {t : Trace} (h : TraceLaw t) (x : HalfId) : HalfLaw (t.half x) := by
  cases x
  · exact h.h0
  · exact h.h1

/-- A trace put together half by half keeps the law. -/
theorem traceLaw_of {t : Trace} (x : HalfId) (ha : HalfLaw (t.half x)) (hb : HalfLaw (t.half x.other))
    (hn : 1 ≤ t.next ∧ t.next ≤ Config.countMax) (hm : t.missed ≤ Config.countMax) (hw : WriterLaw t) : TraceLaw t := by
  cases x
  · exact ⟨ha, hb, hn, hm, hw⟩
  · exact ⟨hb, ha, hn, hm, hw⟩

theorem HalfId.other_other (x : HalfId) : x.other.other = x := by cases x <;> rfl

/-- The writer moves into a half it starts to fill: the law holds if the other half is sound and not FILLING. -/
theorem traceLaw_startFilling {t : Trace} (x : HalfId) (hb : HalfLaw (t.half x.other)) (hf : (t.half x.other).state ≠ .filling)
    (hn : 1 ≤ t.next ∧ t.next ≤ Config.countMax) (hm : t.missed = 0) : TraceLaw (t.startFilling x) := by
  have hself : HalfLaw ⟨.filling, [], t.next⟩ := ⟨by simp, hn.2, by simp⟩
  cases x
  · exact ⟨hself, hb, nextSerial_range hn, by show t.missed ≤ _; omega,
      ⟨rfl, (by decide : 0 < Config.halfSize), hf, hm⟩⟩
  · exact ⟨hb, hself, nextSerial_range hn, by show t.missed ≤ _; omega,
      ⟨rfl, (by decide : 0 < Config.halfSize), hf, hm⟩⟩

/-- Closing the FILLING half keeps the law (R176). -/
theorem TraceLaw.close {t : Trace} (h : TraceLaw t) (x : HalfId) (hw : t.writer = .writing x) (now : Nat) :
    TraceLaw (t.close x now) := by
  have w := h.writer
  unfold WriterLaw at w
  rw [hw] at w
  obtain ⟨w1, w2, w3, w4⟩ := w
  have hx := halfLaw_half h x
  have ho := halfLaw_half h x.other
  have hfull : HalfLaw { t.half x with state := .full } := ⟨hx.fill, hx.serial, by simp⟩
  unfold Trace.close
  dsimp only
  rw [Trace.half_setHalf_other]
  cases hs : (t.half x.other).state with
  | free =>
    refine traceLaw_startFilling _ ?_ ?_ (by cases x <;> exact h.next) (by cases x <;> exact w4)
    · rw [HalfId.other_other, Trace.half_setHalf]; exact hfull
    · rw [HalfId.other_other, Trace.half_setHalf]; simp
  | filling => exact absurd hs w3
  | full =>
    refine traceLaw_of x ?_ ?_ (by cases x <;> exact h.next) (Nat.zero_le _) ?_
    · cases x <;> exact hfull
    · cases x <;> exact ho
    · cases x
      · exact ⟨rfl, hs⟩
      · exact ⟨hs, rfl⟩

/-- An entry written into the FILLING half leaves the law but for the room left, which may be gone. -/
theorem TraceLaw.offer {s : State} (h : TraceLaw s.trace) (x : Subject) (b : TraceBody) : TraceLaw (s.offer x b).trace := by
  unfold State.offer
  split
  · rename_i e
    have w := h.writer
    unfold WriterLaw at w
    rw [e] at w
    refine ⟨h.h0, h.h1, h.next, by show min _ _ ≤ _; omega, ?_⟩
    show WriterLaw _
    unfold WriterLaw
    rw [e]
    exact w
  · rename_i y e
    have w := h.writer
    unfold WriterLaw at w
    rw [e] at w
    obtain ⟨w1, w2, w3, w4⟩ := w
    have hy := halfLaw_half h y
    have ho := halfLaw_half h y.other
    generalize he : (⟨s.uptime, x, b⟩ : TraceEntry) = en
    have hl : ((s.trace.half y).entries ++ [en]).length = (s.trace.half y).entries.length + 1 := by simp
    have hself : HalfLaw { s.trace.half y with entries := (s.trace.half y).entries ++ [en] } :=
      ⟨by show _ ≤ _; rw [hl]; omega, hy.serial, by simp [w1]⟩
    dsimp only
    split
    · rename_i hc
      have hc2 : (s.trace.half y).entries.length + 1 = Config.halfSize := by
        simpa [Trace.append, Trace.half_setHalf] using hc
      simp only [closeHalf_trace]
      have hfull : HalfLaw { s.trace.half y with state := .full, entries := (s.trace.half y).entries ++ [en] } :=
        ⟨hself.fill, hy.serial, by simp⟩
      unfold Trace.close Trace.append
      dsimp only
      simp only [Trace.half_setHalf_other, Trace.half_setHalf]
      cases hs : (s.trace.half y.other).state with
      | free =>
        refine traceLaw_startFilling _ ?_ ?_ ?_ ?_
        · rw [HalfId.other_other, Trace.half_setHalf]; exact hfull
        · rw [HalfId.other_other, Trace.half_setHalf]; simp
        · cases y <;> exact h.next
        · cases y <;> exact w4
      | filling => exact absurd hs w3
      | full =>
        refine traceLaw_of y ?_ ?_ ?_ (Nat.zero_le _) ?_
        · cases y <;> exact hfull
        · cases y <;> exact ho
        · cases y <;> exact h.next
        · cases y
          · exact ⟨rfl, hs⟩
          · exact ⟨hs, rfl⟩
    · rename_i hc
      have hc2 : (s.trace.half y).entries.length + 1 ≠ Config.halfSize := by
        simpa [Trace.append, Trace.half_setHalf] using hc
      have hw : WriterLaw (s.trace.append y en) := by
        unfold WriterLaw
        have e2 : (s.trace.append y en).writer = .writing y := by cases y <;> exact e
        rw [e2]
        refine ⟨?_, ?_, ?_, ?_⟩
        · simpa [Trace.append, Trace.half_setHalf] using w1
        · simp only [Trace.append, Trace.half_setHalf, hl]; omega
        · simpa [Trace.append, Trace.half_setHalf_other] using w3
        · cases y <;> exact w4
      refine traceLaw_of y ?_ ?_ ?_ ?_ hw
      · simpa [Trace.append, Trace.half_setHalf] using hself
      · simpa [Trace.append, Trace.half_setHalf_other] using ho
      · cases y <;> exact h.next
      · cases y <;> exact h.missed

/-- Releasing a FULL half keeps the law (R177). -/
theorem TraceLaw.release {t : Trace} (h : TraceLaw t) (x : HalfId) (hf : (t.half x).state = .full) (now : Nat) :
    TraceLaw (t.release x now) := by
  have w := h.writer
  have hx := halfLaw_half h x
  have ho := halfLaw_half h x.other
  have hfree : HalfLaw { t.half x with state := .free, entries := [] } := ⟨by simp, hx.serial, by simp⟩
  unfold WriterLaw at w
  unfold Trace.release
  dsimp only
  split
  · rename_i y e
    rw [e] at w
    obtain ⟨w1, w2, w3, w4⟩ := w
    have hne : y = x.other := by
      cases x <;> cases y <;> first | rfl | (rw [w1] at hf; cases hf)
    subst hne
    rw [HalfId.other_other] at w3
    refine traceLaw_of x (by rw [Trace.half_setHalf]; exact hfree) (by rw [Trace.half_setHalf_other]; exact ho)
      (by cases x <;> exact h.next) (by cases x <;> exact h.missed) ?_
    cases x
    · unfold WriterLaw
      rw [show (t.setHalf .h0 { t.half .h0 with state := .free, entries := [] }).writer = .writing .h1 from e]
      exact ⟨w1, w2, by simp [Trace.setHalf, Trace.half, HalfId.other], w4⟩
    · unfold WriterLaw
      rw [show (t.setHalf .h1 { t.half .h1 with state := .free, entries := [] }).writer = .writing .h0 from e]
      exact ⟨w1, w2, by simp [Trace.setHalf, Trace.half, HalfId.other], w4⟩
  · rename_i since e
    rw [e] at w
    cases x
    · exact ⟨⟨by simp [Trace.append, Trace.startFilling, Trace.setHalf, Trace.half], h.next.2, by
          simp [Trace.append, Trace.startFilling, Trace.setHalf, Trace.half]⟩, h.h1, nextSerial_range h.next, Nat.zero_le _,
        ⟨rfl, by simp [Trace.append, Trace.startFilling, Trace.setHalf, Trace.half], by
          show t.h1.state ≠ _; rw [w.2]; decide, rfl⟩⟩
    · exact ⟨h.h0, ⟨by simp [Trace.append, Trace.startFilling, Trace.setHalf, Trace.half], h.next.2, by
          simp [Trace.append, Trace.startFilling, Trace.setHalf, Trace.half]⟩, nextSerial_range h.next, Nat.zero_le _,
        ⟨rfl, by simp [Trace.append, Trace.startFilling, Trace.setHalf, Trace.half], by
          show t.h0.state ≠ _; rw [w.1]; decide, rfl⟩⟩

theorem TraceLaw.reset : TraceLaw Trace.reset :=
  ⟨⟨by decide, by decide, by decide⟩, ⟨by decide, by decide, by decide⟩, by decide, by decide,
    ⟨rfl, by decide, by decide, rfl⟩⟩

/-! ## The notice law (R189, R190) -/

theorem sourceSet_sublist (xs : List Source) : (sourceSet xs).Sublist allSources := List.filter_sublist

theorem NoticeLaw.raise {n : Notice} (h : NoticeLaw n) (x : Source) : NoticeLaw (n.raise x) := by
  unfold Notice.raise
  split
  · exact h
  · exact ⟨sourceSet_sublist _, h.2⟩

theorem NoticeLaw.enable {n : Notice} (h : NoticeLaw n) (xs : List Source) : NoticeLaw (n.enable xs) :=
  ⟨h.1, sourceSet_sublist _⟩

theorem NoticeLaw.clear {n : Notice} (h : NoticeLaw n) (xs : List Source) : NoticeLaw (n.clear xs) :=
  ⟨List.filter_sublist.trans h.1, h.2⟩

/-! ## Requests of the trace and notice units -/

@[simp] theorem moves_reqTraceRelease (args : List Arg) (s : State) : ReqMoves (lv + 2) s (reqTraceRelease args s) := by
  unfold reqTraceRelease
  refine reqMoves_checked (reqMoves_withSome _ _ fun x => ?_) _
  unfold refusedIf
  split
  · trivial
  · rename_i hf
    refine Moves.tail .refl (.trace s _ (by omega) fun h => h.release x ?_ _)
    simpa using hf
@[simp] theorem moves_reqTraceCut (args : List Arg) (s : State) : ReqMoves (lv + 2) s (reqTraceCut args s) := by
  unfold reqTraceCut
  refine reqMoves_checked ?_ _
  split
  · trivial
  · rename_i x e
    exact Moves.tail (Moves.tail .refl (.trace s _ (by omega) fun h => h.close x e _)) (.raise _ _)
@[simp] theorem moves_reqTraceRead (args : List Arg) (s : State) : ReqMoves lv s (reqTraceRead args s) := by
  unfold reqTraceRead
  repeat' (first | refine reqMoves_checked ?_ _ | refine reqMoves_withSome _ _ fun a => ?_ | refine reqMoves_refusedIf ?_ _ _ |
    refine reqMoves_group ?_ _ _ | refine reqMoves_passes ?_ _ _ _ _ | exact trivial | split | intro)
  all_goals first | exact reqMoves_done moves_refl _ | simp (contextual := true) (maxDischargeDepth := 40)
@[simp] theorem moves_reqTraceState (args : List Arg) (s : State) : ReqMoves lv s (reqTraceState args s) := by
  unfold reqTraceState
  repeat' (first | refine reqMoves_checked ?_ _ | refine reqMoves_withSome _ _ fun a => ?_ | refine reqMoves_refusedIf ?_ _ _ |
    refine reqMoves_group ?_ _ _ | refine reqMoves_passes ?_ _ _ _ _ | exact trivial | split | intro)
  all_goals first | exact reqMoves_done moves_refl _ | simp (contextual := true) (maxDischargeDepth := 40)
@[simp] theorem moves_reqNoticeEnable (args : List Arg) (s : State) : ReqMoves (lv + 2) s (reqNoticeEnable args s) := by
  unfold reqNoticeEnable
  exact reqMoves_checked (reqMoves_done (Moves.tail .refl (.notice s _ (by omega) fun h => h.enable _)) _) _
@[simp] theorem moves_reqNoticeClear (args : List Arg) (s : State) : ReqMoves (lv + 2) s (reqNoticeClear args s) := by
  unfold reqNoticeClear
  exact reqMoves_checked (reqMoves_done (Moves.tail .refl (.notice s _ (by omega) fun h => h.clear _)) _) _
@[simp] theorem moves_reqIdentify (args : List Arg) (s : State) : ReqMoves lv s (reqIdentify args s) := by
  unfold reqIdentify
  repeat' (first | refine reqMoves_checked ?_ _ | refine reqMoves_withSome _ _ fun a => ?_ | refine reqMoves_refusedIf ?_ _ _ |
    refine reqMoves_group ?_ _ _ | refine reqMoves_passes ?_ _ _ _ _ | exact trivial | split | intro)
  all_goals first | exact reqMoves_done moves_refl _ | simp (contextual := true) (maxDischargeDepth := 40)
@[simp] theorem moves_reqStatus (args : List Arg) (s : State) : ReqMoves lv s (reqStatus args s) := by
  unfold reqStatus
  repeat' (first | refine reqMoves_checked ?_ _ | refine reqMoves_withSome _ _ fun a => ?_ | refine reqMoves_refusedIf ?_ _ _ |
    refine reqMoves_group ?_ _ _ | refine reqMoves_passes ?_ _ _ _ _ | exact trivial | split | intro)
  all_goals first | exact reqMoves_done moves_refl _ | simp (contextual := true) (maxDischargeDepth := 40)

end

end Sys2Proof.Machine
end

