-- ==== Sys2Proof/Laws/MovesCommands.lean ====
section
/-! SUPPORT. Every command answers a next state, and reaches it by moves. -/

namespace Sys2Proof.Machine

set_option linter.unusedTactic false
set_option linter.unusedSimpArgs false
set_option linter.unreachableTactic false

section
variable {lv : Nat} {s0 s : State}

/-! ## Starts, modes, the store -/

@[simp] theorem moves_parkLoop (h : Moves (lv + 1) s0 s) (l : LoopId) :
    Moves (lv + 1) s0 (s.parkLoop l) := by
  unfold State.parkLoop
  try dsimp only
  repeat' split
  all_goals first | exact h | simp (contextual := true) (maxDischargeDepth := 40) [h]
@[simp] theorem moves_startOrPark (h : Moves (lv + 1) s0 s) (cause : String) (l : LoopId) :
    Moves (lv + 1) s0 (s.startOrPark cause l) := by
  unfold State.startOrPark
  refine moves_ite (moves_ite ?_ ?_) (moves_parkLoop h _)
  · exact moves_deliverLost (moves_enterStarting (moves_modLoop h _ _) _ _)
  · exact moves_parkLoop (moves_modLoop h _ _) _
@[simp] theorem moves_startLoops (h : Moves (lv + 1) s0 s) (cause : String) :
    Moves (lv + 1) s0 (s.startLoops cause) := by
  unfold State.startLoops
  refine moves_forEach (moves_forEach (moves_forEach h _ _ fun c t ht => ?_) _ _ fun l t ht => moves_startOrPark ht _ l) _ _
    fun l t ht => moves_resummarise ht l
  exact moves_ite (moves_parkCoil ht c) ht
@[simp] theorem moves_changeMode (h : Moves (lv + 3) s0 s) (m : PartMode) : Moves (lv + 3) s0 (s.changeMode m) :=
  moves_raise (moves_event (h.tail (.part s m s.uptime s.identity s.store (by omega))) _ _ _) _

theorem PlanLaw.pause {p : Plan} (h : PlanLaw p) : PlanLaw (if p.state = .active then p.pause else p) := by
  split
  · rename_i e
    exact h.toPaused (by rw [e]; decide)
  · exact h

@[simp] theorem moves_toCommission (h : Moves (lv + 3) s0 s) : Moves (lv + 3) s0 s.toCommission := by
  unfold State.toCommission
  extract_lets s1 s2 s3
  have h1 : Moves (lv + 3) s0 s1 := moves_forEach (moves_changeMode h _) _ _ fun l t ht => moves_idleLoop ht l
  have h2 : Moves (lv + 3) s0 s2 := moves_forEach h1 _ _ fun c t ht => moves_modCoil ht c _
  have h3 : Moves (lv + 3) s0 s3 := moves_forEach h2 _ _ fun l t ht =>
    moves_modPlan (moves_modUnit ht l _) l _ PlanLaw.pause
  exact moves_forEach (moves_dropOwnerEntries (lv := lv + 2) h3) _ _ fun l t ht => moves_resummarise ht l

@[simp] theorem moves_startSave (h : Moves (lv + 3) s0 s) (d : Option IdentityData) : Moves (lv + 3) s0 (s.startSave d) := by
  unfold State.startSave
  exact (moves_modCfg (lv := lv + 1) h _).tail (.part _ _ _ _ _ (by omega))

@[simp] theorem moves_saveCompleted (h : Moves (lv + 3) s0 s) (job : SaveJob) (a b : Bool) :
    Moves (lv + 3) s0 (s.saveCompleted job a b) := by
  rcases job with ⟨st, _ | d⟩
  · exact moves_raise (moves_event (h.tail (.part _ _ _ _ _ (by omega))) _ _ _) _
  · exact moves_raise (moves_event ((h.tail (.part _ _ _ _ _ (by omega))).tail (.part _ _ _ _ _ (by omega))) _ _ _) _

theorem QueueLaw.cold0 (r : Nat) : QueueLaw (.cold0 r) := by simp [QueueLaw, Bus.cold0]
theorem NoticeLaw.empty : NoticeLaw { pending := [], enabled := [], due := false } :=
  ⟨List.nil_sublist _, List.nil_sublist _⟩

@[simp] theorem moves_warmReset (h : Moves (lv + 2) s0 s) : Moves (lv + 2) s0 s.warmReset := by
  unfold State.warmReset
  refine moves_modBus_quiet (lv := lv + 1) ?_ _ rfl rfl
  exact ((h.tail (.trace _ Trace.reset (by omega) fun _ => TraceLaw.reset)).tail
    (.notice _ Notice.cleared (by omega) fun _ => NoticeLaw.empty)).tail (.link _ _ (by omega))

@[simp] theorem moves_blocksAtStart (h : Moves (lv + 3) s0 s) (x : Inputs) (r : Nat) :
    Moves (lv + 3) s0 (s.blocksAtStart x r) := by
  unfold State.blocksAtStart
  have a := ((h.tail (.loops s (Vector.replicate 4 .cold0))).tail (.units _ (Vector.replicate 4 .cold0))).tail
    (.coils _ (Vector.replicate 16 .cold0))
  have b := ((a.tail (.overrides _ (Vector.replicate 16 none))).tail (.frost _ (Vector.replicate 16 .cold0))).tail
    (.summaries _ (Vector.replicate 4 .normal))
  have c := ((b.tail (.inputs _ x)).tail (.cfg _ s.store.settings.loaded (by omega))).tail
    (.nodes _ (Vector.replicate 31 .cold0) (by omega))
  have d := ((c.tail (.bus _ (.cold0 s.store.settings.loaded.site.busRate) (by omega) fun _ => QueueLaw.cold0 _)).tail
    (.trace _ Trace.reset (by omega) fun _ => TraceLaw.reset)).tail
      (.notice _ { pending := [], enabled := [], due := false } (by omega) fun _ => NoticeLaw.empty)
  have e := (d.tail (.plans _ (Vector.replicate 4 .blank) (by omega) fun _ l => by
      simp only [Fin.getElem_fin, Vector.getElem_replicate]; exact PlanLaw.blank)).tail
    (.link _ { State.reset.link with rate := r } (by omega))
  exact e.tail (.part _ .commission 0 s.store.identity.identityLoaded { s.store with saving := none } (by omega))

@[simp] theorem moves_takeConditions (h : Moves lv s0 s) : Moves lv s0 s.takeConditions := moves_modInputs h _

@[simp] theorem moves_coldStart (h : Moves (lv + 3) s0 s) (x : Inputs) (r : Nat) : Moves (lv + 3) s0 (s.coldStart x r) := by
  unfold State.coldStart
  extract_lets s1 s2 m s3
  have h1 : Moves (lv + 3) s0 s1 := moves_takeConditions (moves_blocksAtStart h x r)
  have h2 : Moves (lv + 3) s0 s2 :=
    moves_forEach (moves_forEach h1 _ _ fun p t ht => moves_restartChan ht p _) _ _ fun l t ht => moves_resummarise ht l
  have h3 : Moves (lv + 3) s0 s3 := moves_event (h2.tail (.part _ m _ _ _ (by omega))) _ _ _
  exact moves_beginRound (lv := lv + 2) (moves_ite (moves_startLoops (lv := lv + 2) h3 _) h3)

theorem moves_whenReset (h : Moves (lv + 1) s0 s) (k : ResetKind) (f : State → State)
    (hf : ∀ t, Moves (lv + 1) s0 t → Moves (lv + 1) s0 (f t)) : Moves (lv + 1) s0 (s.whenReset k f) :=
  moves_ite (hf _ (moves_modLink h _)) h

@[simp] theorem moves_second (h : Moves (lv + 3) s0 s) : Moves (lv + 3) s0 s.second := by
  unfold State.second
  have a := ((h.tail (.loops s (s.loops.map LoopSt.second))).tail (.units _ (s.units.map LoopCoils.second))).tail
    (.coils _ (s.coils.map CoilSt.second))
  have b := a.tail (.bus _ s.bus.second (by omega) fun hq => hq)
  have c := b.tail (.plans _ (s.plans.map (Plan.second (s.mode = .run))) (by omega) fun hp l => by
    simp only [Fin.getElem_fin, Vector.getElem_map]
    refine PlanLaw.same ?_ ?_ ?_ ?_ (hp l) <;> (unfold Plan.second; split <;> rfl))
  exact c.tail (.part _ s.mode (s.uptime + 1) s.identity s.store (by omega))

/-! ## The host link -/

@[simp] theorem moves_toAnswerPlace (h : Moves (lv + 1) s0 s) (p : Placement) : Moves (lv + 1) s0 (s.toAnswerPlace p) :=
  moves_modLink h _
@[simp] theorem moves_placeError (h : Moves (lv + 1) s0 s) (c : LineCause) : Moves (lv + 1) s0 (s.placeError c) := by
  unfold State.placeError
  exact moves_ite (moves_toAnswerPlace h _) (moves_place h _)
@[simp] theorem moves_setReceiver (h : Moves (lv + 1) s0 s) (r : Receiver) : Moves (lv + 1) s0 (s.setReceiver r) :=
  moves_modLink h _

theorem moves_takeRequest (h : Moves (lv + 1) s0 s) (name : String) (body : State → ReqResult)
    (hb : ReqMoves (lv + 1) s (body s)) : Moves (lv + 1) s0 (takeRequest name body s) := by
  unfold takeRequest
  refine moves_ite h (moves_ite (moves_toAnswerPlace h _) (moves_ite (moves_place h _) ?_))
  cases e : body s with
  | refuse r => exact moves_place h _
  | done t r => rw [e] at hb; exact moves_place (h.trans hb) _
  | deferred t => rw [e] at hb; exact h.trans hb

end

/-! ## Requests of modes, identity, store and resets -/

theorem moves_reqModeSet (args : List Arg) (s : State) : ReqMoves 3 s (reqModeSet args s) := by
  unfold reqModeSet
  refine reqMoves_checked (reqMoves_withSome _ _ fun m => reqMoves_refusedIf ?_ _ _) _
  split
  · exact moves_refl
  · split
    · exact moves_toCommission (lv := 0) moves_refl
    · exact moves_startLoops (lv := 2) (moves_changeMode (lv := 0) moves_refl _) _

theorem moves_reqStoreSave (args : List Arg) (s : State) : ReqMoves 3 s (reqStoreSave args s) := by
  unfold reqStoreSave
  exact reqMoves_checked (reqMoves_refusedIf (reqMoves_done (moves_startSave (lv := 0) moves_refl _) _) _ _) _

theorem moves_reqIdentitySet (args : List Arg) (s : State) : ReqMoves 3 s (reqIdentitySet args s) := by
  unfold reqIdentitySet
  refine reqMoves_checked (reqMoves_refusedIf (reqMoves_refusedIf (reqMoves_done ?_ _) _ _) _ _) _
  exact moves_startSave (lv := 0) (Moves.refl.tail (.part s _ _ _ _ (by omega))) _

theorem moves_reqReset {lv : Nat} (args : List Arg) (s : State) : ReqMoves (lv + 1) s (reqReset args s) := by
  unfold reqReset
  refine reqMoves_checked (reqMoves_withSome _ _ fun k => reqMoves_refusedIf (reqMoves_done ?_ _) _ _) _
  exact moves_modLink moves_refl _

/-! ## Every request by its name -/

/-- What the part makes of each request it knows is reached by moves. -/
theorem moves_known {x : String × (List Arg → State → ReqResult)} (hx : x ∈ allRequests) (args : List Arg) (s : State) :
    ReqMoves 3 s (x.2 args s) := by
  simp only [allRequests, recordRequests, planRequests, coilRequests, otherRequests, List.cons_append, List.nil_append,
    List.mem_cons, List.not_mem_nil, or_false] at hx
  rcases hx with rfl | rfl | rfl | rfl | rfl | rfl | rfl | rfl | rfl | rfl | rfl | rfl | rfl | rfl | rfl | rfl | rfl | rfl | rfl | rfl | rfl | rfl | rfl | rfl | rfl | rfl | rfl | rfl | rfl | rfl | rfl | rfl | rfl | rfl | rfl | rfl | rfl | rfl | rfl | rfl | rfl | rfl | rfl | rfl | rfl | rfl | rfl | rfl | rfl | rfl | rfl | rfl | rfl | rfl | rfl | rfl | rfl
  · exact moves_reqSiteGet (lv := 3) _ _
  · exact moves_reqNodeGet (lv := 3) _ _
  · exact moves_reqLoopGet (lv := 3) _ _
  · exact moves_reqCoilGet (lv := 3) _ _
  · exact moves_reqSiteSet (lv := 1) _ _
  · exact moves_reqNodeSet (lv := 1) _ _
  · exact moves_reqLoopSet (lv := 1) _ _
  · exact moves_reqCoilSet (lv := 3) _ _
  · exact moves_reqModeSet _ _
  · exact moves_reqIdentitySet _ _
  · exact moves_reqStoreSave _ _
  · exact moves_reqReset (lv := 2) _ _
  · exact moves_reqPlanPut (lv := 3) _ _
  · exact moves_reqPlanCommit (lv := 3) _ _
  · exact moves_reqPlanRun (lv := 3) _ _
  · exact moves_reqPlanPause (lv := 3) _ _
  · exact moves_reqPlanSkip (lv := 3) _ _
  · exact moves_reqPlanClear (lv := 3) _ _
  · exact moves_reqPlanGet (lv := 3) _ _
  · exact moves_reqPlanState (lv := 3) _ _
  · exact moves_reqPumpSwap (lv := 3) _ _
  · exact moves_reqPumpClear (lv := 3) _ _
  · exact moves_reqLoopState (lv := 3) _ _
  · exact moves_reqRosterGet (lv := 3) _ _
  · exact moves_reqCoilState (lv := 3) _ _
  · exact moves_reqRosterOrder (lv := 3) _ _
  · exact moves_reqRosterRotate (lv := 3) _ _
  · exact moves_reqCoilAdmit (lv := 3) _ _
  · exact moves_reqCoilRetire (lv := 3) _ _
  · exact moves_reqCoilClear (lv := 3) _ _
  · exact moves_reqFrostState (lv := 3) _ _
  · exact moves_reqCoilOut (lv := 3) _ _
  · exact moves_reqCoilIn (lv := 3) _ _
  · exact moves_reqCoilAmend (lv := 3) _ _
  · exact moves_reqCoilLimits (lv := 3) _ _
  · exact moves_reqOverrideSet (lv := 3) _ _
  · exact moves_reqOverrideClear (lv := 3) _ _
  · exact moves_reqCoilMatch (lv := 3) _ _
  · exact moves_reqOverrideList (lv := 3) _ _
  · exact moves_reqBusPass (lv := 2) _ _
  · exact moves_reqNodeState (lv := 3) _ _
  · exact moves_reqBusState (lv := 3) _ _
  · exact moves_reqPulseSet (lv := 1) _ _
  · exact moves_reqInputSet (lv := 1) _ _
  · exact moves_reqPulseGet (lv := 3) _ _
  · exact moves_reqInputGet (lv := 3) _ _
  · exact moves_reqPulseState (lv := 3) _ _
  · exact moves_reqInputState (lv := 3) _ _
  · exact moves_reqOutdoorSet (lv := 3) _ _
  · exact moves_reqTraceRelease (lv := 1) _ _
  · exact moves_reqTraceCut (lv := 1) _ _
  · exact moves_reqTraceRead (lv := 3) _ _
  · exact moves_reqTraceState (lv := 3) _ _
  · exact moves_reqNoticeEnable (lv := 1) _ _
  · exact moves_reqNoticeClear (lv := 1) _ _
  · exact moves_reqIdentify (lv := 3) _ _
  · exact moves_reqStatus (lv := 3) _ _

theorem moves_requestBody (name : String) (args : List Arg) (s : State) : ReqMoves 3 s (requestBody name args s) := by
  unfold requestBody
  cases e : List.find? (fun x => decide (x.1 = name)) allRequests with
  | some x => exact moves_known (List.mem_of_find?_eq_some e) args s
  | none => trivial

theorem requestBody_unknown {name : String} (h : knownName name = false) (args : List Arg) (s : State) :
    requestBody name args s = .refuse .unknown := by
  unfold requestBody
  have e : List.find? (fun x => decide (x.1 = name)) allRequests = none := by
    rw [List.find?_eq_none]
    intro x hx hn
    unfold knownName at h
    exact absurd (List.any_eq_true.mpr ⟨x, hx, hn⟩) (by rw [h]; decide)
  rw [e]

/-! ## Lines and the transmitter -/

section
variable {s0 s : State}

theorem moves_takeLine (h : Moves 3 s0 s) (line : List HostChar) : Moves 3 s0 (s.takeLine line) := by
  unfold State.takeLine
  split
  · exact moves_placeError (lv := 2) h _
  · exact moves_takeRequest (lv := 2) h _ _ (moves_requestBody _ _ _)

theorem moves_charReceived (h : Moves 3 s0 s) (c : HostChar) : Moves 3 s0 (s.charReceived c) := by
  unfold State.charReceived
  split
  · exact moves_ite h (moves_setReceiver (lv := 2) h _)
  · exact moves_ite (moves_setReceiver (lv := 2) h _) h
  · refine moves_ite (moves_takeLine (moves_setReceiver (lv := 2) h _) _) (moves_ite ?_ (moves_setReceiver (lv := 2) h _))
    exact moves_placeError (lv := 2) (moves_setReceiver (lv := 2) h _) _

end

section
variable {lv : Nat} {s0 s : State}

theorem moves_gapExpired (h : Moves (lv + 1) s0 s) : Moves (lv + 1) s0 s.gapExpired := by
  unfold State.gapExpired
  split
  · exact h
  · exact moves_setReceiver h _
  · exact moves_placeError (moves_setReceiver h _) _

theorem moves_unlessReset {t : State} (h : Moves (lv + 1) s0 s) (k : Moves (lv + 1) s0 t) : Moves (lv + 1) s0 (s.unlessReset t) := moves_ite h k

theorem moves_answerSent (h : Moves (lv + 1) s0 s) : Moves (lv + 1) s0 s.answerSent := by
  unfold State.answerSent
  split
  · exact moves_modLink h _
  · exact h

theorem moves_transmit (h : Moves (lv + 1) s0 s) : Moves (lv + 1) s0 s.transmit := moves_modLink h _

theorem moves_noticeLine (h : Moves (lv + 2) s0 s) : Moves (lv + 2) s0 s.noticeLine := by
  unfold State.noticeLine
  have k := h.tail (.notice _ { s.notice with due := false } (by omega) fun hn => hn)
  exact moves_ite (moves_ite k (moves_place (lv := lv + 1) k _)) h

end

/-! ## Every command -/

/-- A command's outcome: the next state, reached by moves. -/
def Reaches (lv : Nat) (s : State) (o : Host.Outcome State Fault Refusal) : Prop := ∃ t, o = .next t ∧ Moves lv s t

theorem reaches_happen {lv : Nat} {s t : State} (h : Moves (lv + 1) s t) : Reaches (lv + 1) s (happen t) :=
  ⟨_, rfl, moves_deliverLost h⟩

theorem reaches_request {lv : Nat} (name : String) (body : State → ReqResult) (s : State) (hb : ReqMoves (lv + 1) s (body s)) :
    Reaches (lv + 1) s (request name body s) := reaches_happen (moves_takeRequest moves_refl _ _ hb)

theorem Reaches.mono {lv lw : Nat} (hk : lv ≤ lw) {s : State} {o : Host.Outcome State Fault Refusal} (h : Reaches lv s o) :
    Reaches lw s o := by
  obtain ⟨t, e, m⟩ := h
  exact ⟨t, e, m.mono hk⟩

theorem reaches_exec (c : Instr) (s : State) : Reaches c.reach s (exec c s) := by
  cases c with
  | powerOn pins => exact reaches_happen (lv := 2) (moves_coldStart (lv := 0) moves_refl _ _)
  | coldStart =>
    exact reaches_happen (lv := 2) (moves_whenReset (lv := 2) moves_refl _ _ fun t h => moves_coldStart (lv := 0) h _ _)
  | warmReset =>
    exact reaches_happen (lv := 1) (moves_whenReset (lv := 1) moves_refl _ _ fun t h => moves_warmReset (lv := 0) h)
  | erase =>
    exact reaches_happen (lv := 2) (moves_whenReset (lv := 2) moves_refl _ _ fun t h =>
      moves_coldStart (lv := 0) (h.tail (.part t _ _ _ _ (by omega))) _ _)
  | hostCharReceived c => exact reaches_happen (lv := 2) (moves_unlessReset moves_refl (moves_charReceived moves_refl _))
  | hostGapTimeout => exact reaches_happen (lv := 0) (moves_unlessReset moves_refl (moves_gapExpired moves_refl))
  | badLine line =>
    refine reaches_happen (lv := 0) ?_
    split
    · exact moves_unlessReset moves_refl (moves_placeError  moves_refl _)
    · exact moves_refl
  | nameUnknown name args =>
    show Reaches 1 s (if knownName name then happen s else request name (requestBody name args) s)
    split
    · exact reaches_happen (lv := 0) moves_refl
    · rename_i hk
      refine reaches_request (lv := 0) _ _ s ?_
      rw [requestBody_unknown (eq_false_of_ne_true hk)]
      trivial
  | answerLineSent => exact reaches_happen (lv := 0) (moves_answerSent moves_refl)
  | noticeLine => exact reaches_happen (lv := 1) (moves_noticeLine moves_refl)
  | siteGet args => exact reaches_request (lv := 0) _ _ s (moves_reqSiteGet (lv := 1) _ s)
  | nodeGet args => exact reaches_request (lv := 0) _ _ s (moves_reqNodeGet (lv := 1) _ s)
  | loopGet args => exact reaches_request (lv := 0) _ _ s (moves_reqLoopGet (lv := 1) _ s)
  | coilGet args => exact reaches_request (lv := 0) _ _ s (moves_reqCoilGet (lv := 1) _ s)
  | siteSet args => exact reaches_request (lv := 1) _ _ s (moves_reqSiteSet (lv := 0) _ s)
  | nodeSet args => exact reaches_request (lv := 1) _ _ s (moves_reqNodeSet (lv := 0) _ s)
  | loopSet args => exact reaches_request (lv := 1) _ _ s (moves_reqLoopSet (lv := 0) _ s)
  | coilSet args => exact reaches_request (lv := 0) _ _ s (moves_reqCoilSet (lv := 1) _ s)
  | modeSetRun args => exact reaches_request (lv := 2) _ _ s (moves_reqModeSet _ s)
  | modeSetCommission args => exact reaches_request (lv := 2) _ _ s (moves_reqModeSet _ s)
  | identitySet args => exact reaches_request (lv := 2) _ _ s (moves_reqIdentitySet _ s)
  | storeSave args => exact reaches_request (lv := 2) _ _ s (moves_reqStoreSave _ s)
  | saveComplete a b =>
    refine reaches_happen (lv := 2) ?_
    split
    · exact moves_saveCompleted (lv := 0) moves_refl _ _ _
    · exact moves_refl
  | resetWarm args => exact reaches_request (lv := 0) _ _ s (moves_reqReset (lv := 0) _ s)
  | resetCold args => exact reaches_request (lv := 0) _ _ s (moves_reqReset (lv := 0) _ s)
  | resetErase args => exact reaches_request (lv := 0) _ _ s (moves_reqReset (lv := 0) _ s)
  | planPut args => exact reaches_request (lv := 0) _ _ s (moves_reqPlanPut (lv := 1) _ s)
  | planGet args => exact reaches_request (lv := 0) _ _ s (moves_reqPlanGet (lv := 1) _ s)
  | planCommit args => exact reaches_request (lv := 0) _ _ s (moves_reqPlanCommit (lv := 1) _ s)
  | planRun args => exact reaches_request (lv := 0) _ _ s (moves_reqPlanRun (lv := 1) _ s)
  | planPause args => exact reaches_request (lv := 0) _ _ s (moves_reqPlanPause (lv := 1) _ s)
  | planSkip args => exact reaches_request (lv := 0) _ _ s (moves_reqPlanSkip (lv := 1) _ s)
  | planClear args => exact reaches_request (lv := 0) _ _ s (moves_reqPlanClear (lv := 1) _ s)
  | planState args => exact reaches_request (lv := 0) _ _ s (moves_reqPlanState (lv := 1) _ s)
  | segmentEnd l =>
    refine reaches_happen (lv := 0) ?_
    split
    · rename_i e
      exact moves_segmentEnded moves_refl _ (by rw [Plan.timeUp_active e]; decide)
    · exact moves_refl
  | pumpSwap args => exact reaches_request (lv := 0) _ _ s (moves_reqPumpSwap (lv := 1) _ s)
  | pumpClear args => exact reaches_request (lv := 0) _ _ s (moves_reqPumpClear (lv := 1) _ s)
  | loopState args => exact reaches_request (lv := 0) _ _ s (moves_reqLoopState (lv := 1) _ s)
  | loopTick l => exact reaches_happen (lv := 0) (moves_ite (moves_loopTick moves_refl _) moves_refl)
  | proofTimeout l => exact reaches_happen (lv := 0) (moves_ite (moves_proofExpired moves_refl _) moves_refl)
  | flowlossEnd l => exact reaches_happen (lv := 0) (moves_ite (moves_flowlossEnded moves_refl _) moves_refl)
  | lowflowExpiry l => exact reaches_happen (lv := 0) (moves_ite (moves_lowflowExpired moves_refl _) moves_refl)
  | holdoffExpiry l => exact reaches_happen (lv := 0) (moves_ite (moves_modLoop moves_refl _ _) moves_refl)
  | rosterGet args => exact reaches_request (lv := 0) _ _ s (moves_reqRosterGet (lv := 1) _ s)
  | rosterOrder args => exact reaches_request (lv := 0) _ _ s (moves_reqRosterOrder (lv := 1) _ s)
  | rosterRotate args => exact reaches_request (lv := 0) _ _ s (moves_reqRosterRotate (lv := 1) _ s)
  | rotateTimerExpiry l => exact reaches_happen (lv := 0) (moves_ite (moves_ite (moves_modUnit (moves_startRotation moves_refl _) _ _) (moves_autoRotate (moves_startRotation moves_refl _) _)) moves_refl)
  | coilAdmit args => exact reaches_request (lv := 0) _ _ s (moves_reqCoilAdmit (lv := 1) _ s)
  | coilRetire args => exact reaches_request (lv := 0) _ _ s (moves_reqCoilRetire (lv := 1) _ s)
  | coilClear args => exact reaches_request (lv := 0) _ _ s (moves_reqCoilClear (lv := 1) _ s)
  | coilState args => exact reaches_request (lv := 0) _ _ s (moves_reqCoilState (lv := 1) _ s)
  | strokeTimeout c => exact reaches_happen (lv := 0) (moves_ite (moves_strokeExpired moves_refl _) moves_refl)
  | stepDwellExpiry c => exact reaches_happen (lv := 0) (moves_ite (moves_nextStep moves_refl _) moves_refl)
  | admitTimeout c => exact reaches_happen (lv := 0) (moves_ite (moves_onLoopOf moves_refl _ fun l => moves_admissionTimedOut moves_refl _ l) moves_refl)
  | admitSkipExpiry c => exact reaches_happen (lv := 0) (moves_ite (moves_modCoil moves_refl _ _) moves_refl)
  | rundownExpiry c =>
    refine reaches_happen (lv := 0) ?_
    split
    · exact moves_onLoopOf moves_refl _ fun l => moves_rundownExpired moves_refl _ l
    · exact moves_refl
  | keepwarmTimerExpiry c => exact reaches_happen (lv := 0) (moves_ite (moves_onLoopOf moves_refl _ fun l => moves_kwTimerExpired moves_refl _ l) moves_refl)
  | kwDwellExpiry c => exact reaches_happen (lv := 0) (moves_ite (moves_onLoopOf moves_refl _ fun l => moves_kwDwellExpired moves_refl _ l) moves_refl)
  | shedTimerExpiry c => exact reaches_happen (lv := 0) (moves_ite (moves_endSheddingIf moves_refl _ _ _) moves_refl)
  | shedCooldownExpiry c => exact reaches_happen (lv := 0) (moves_ite (moves_modCoil moves_refl _ _) moves_refl)
  | frostState args => exact reaches_request (lv := 0) _ _ s (moves_reqFrostState (lv := 1) _ s)
  | coilOut args => exact reaches_request (lv := 0) _ _ s (moves_reqCoilOut (lv := 1) _ s)
  | coilIn args => exact reaches_request (lv := 0) _ _ s (moves_reqCoilIn (lv := 1) _ s)
  | coilAmendPut args => exact reaches_request (lv := 0) _ _ s (moves_reqCoilAmend (lv := 1) _ s)
  | coilAmendAnd args => exact reaches_request (lv := 0) _ _ s (moves_reqCoilAmend (lv := 1) _ s)
  | coilAmendOr args => exact reaches_request (lv := 0) _ _ s (moves_reqCoilAmend (lv := 1) _ s)
  | coilAmendXor args => exact reaches_request (lv := 0) _ _ s (moves_reqCoilAmend (lv := 1) _ s)
  | coilLimits args => exact reaches_request (lv := 0) _ _ s (moves_reqCoilLimits (lv := 1) _ s)
  | coilMatch args => exact reaches_request (lv := 0) _ _ s (moves_reqCoilMatch (lv := 1) _ s)
  | overrideSet args => exact reaches_request (lv := 0) _ _ s (moves_reqOverrideSet (lv := 1) _ s)
  | overrideClear args => exact reaches_request (lv := 0) _ _ s (moves_reqOverrideClear (lv := 1) _ s)
  | overrideExpiry c => exact reaches_happen (lv := 0) (moves_ite (moves_overrideExpired moves_refl _) moves_refl)
  | overrideList args => exact reaches_request (lv := 0) _ _ s (moves_reqOverrideList (lv := 1) _ s)
  | busGrant => exact reaches_happen (lv := 0) (moves_grant  moves_refl)
  | replyFrame bytes => exact reaches_happen (lv := 0) (moves_replyBytes  moves_refl _)
  | replyWindowExpiry => exact reaches_happen (lv := 0) (moves_finishBare  moves_refl _)
  | echoMismatch => exact reaches_happen (lv := 0) (moves_finishBare  moves_refl _)
  | busDownExpiry =>
    refine reaches_happen (lv := 0) ?_
    split
    · exact moves_raise (moves_event (moves_modBus_quiet  moves_refl _ rfl rfl) _ _ _) _
    · exact moves_refl
  | roundStart =>
    refine reaches_happen (lv := 0) ?_
    split
    · exact moves_beginRound  moves_refl
    · exact moves_refl
  | pointStale n p => exact reaches_happen (lv := 0) (moves_pointStale  moves_refl _ _)
  | busPassRead args => exact reaches_request (lv := 0) _ _ s (moves_reqBusPass (lv := 0) _ s)
  | busPassWrite args => exact reaches_request (lv := 0) _ _ s (moves_reqBusPass (lv := 0) _ s)
  | busPassIdent args => exact reaches_request (lv := 0) _ _ s (moves_reqBusPass (lv := 0) _ s)
  | passWaitTimeout =>
    refine reaches_happen (lv := 0) ?_
    split
    · exact moves_place  (moves_modBus_quiet  moves_refl _ rfl rfl) _
    · exact moves_refl
  | nodeState args => exact reaches_request (lv := 0) _ _ s (moves_reqNodeState (lv := 1) _ s)
  | busState args => exact reaches_request (lv := 0) _ _ s (moves_reqBusState (lv := 1) _ s)
  | pulseSet args => exact reaches_request (lv := 1) _ _ s (moves_reqPulseSet (lv := 0) _ s)
  | pulseGet args => exact reaches_request (lv := 0) _ _ s (moves_reqPulseGet (lv := 1) _ s)
  | pulseEdge p e micros => exact reaches_happen (lv := 0) (moves_pulseEdge moves_refl _ _ _)
  | gateEnd p => exact reaches_happen (lv := 0) (moves_gateEnd moves_refl _)
  | inputSet args => exact reaches_request (lv := 1) _ _ s (moves_reqInputSet (lv := 0) _ s)
  | inputGet args => exact reaches_request (lv := 0) _ _ s (moves_reqInputGet (lv := 1) _ s)
  | inputPinChange pin high => exact reaches_happen (lv := 0) (moves_pinMoved moves_refl _ _)
  | debounceExpiry pin => exact reaches_happen (lv := 0) (moves_debounceExpired moves_refl _)
  | outdoorSet args => exact reaches_request (lv := 0) _ _ s (moves_reqOutdoorSet (lv := 1) _ s)
  | hostOutdoorExpiry =>
    refine reaches_happen (lv := 0) ?_
    split
    · exact moves_ite (moves_hostExpired moves_refl) moves_refl
    · exact moves_refl
  | pulseState args => exact reaches_request (lv := 0) _ _ s (moves_reqPulseState (lv := 1) _ s)
  | inputState args => exact reaches_request (lv := 0) _ _ s (moves_reqInputState (lv := 1) _ s)
  | traceRelease args => exact reaches_request (lv := 1) _ _ s (moves_reqTraceRelease (lv := 0) _ s)
  | traceCut args => exact reaches_request (lv := 1) _ _ s (moves_reqTraceCut (lv := 0) _ s)
  | traceRead args => exact reaches_request (lv := 0) _ _ s (moves_reqTraceRead (lv := 1) _ s)
  | traceState args => exact reaches_request (lv := 0) _ _ s (moves_reqTraceState (lv := 1) _ s)
  | noticeEnable args => exact reaches_request (lv := 1) _ _ s (moves_reqNoticeEnable (lv := 0) _ s)
  | noticeClear args => exact reaches_request (lv := 1) _ _ s (moves_reqNoticeClear (lv := 0) _ s)
  | identify args => exact reaches_request (lv := 0) _ _ s (moves_reqIdentify (lv := 1) _ s)
  | status args => exact reaches_request (lv := 0) _ _ s (moves_reqStatus (lv := 1) _ s)
  | uptimeSecond => exact reaches_happen (lv := 2) (moves_second (lv := 0) moves_refl)
  | replyByteGap => exact reaches_happen (lv := 0) (moves_modBus_quiet  moves_refl _ rfl rfl)

end Sys2Proof.Machine
end

