-- ==== Sys2Proof/Laws/Chains.lean ====
section
/-! SUPPORT. What a chain of moves leaves alone, by its level, and the laws every move keeps. -/

namespace Sys2Proof.Machine

/-! ## What a chain leaves alone -/

theorem Move.pending {lv : Nat} {s t : State} (h : Move lv s t) : t.pending = s.pending := by
  cases h <;> simp

theorem Moves.pending {lv : Nat} {s t : State} (h : Moves lv s t) : t.pending = s.pending := by
  induction h with
  | refl => rfl
  | tail _ m ih => rw [m.pending, ih]

/-- Part mode, uptime, identity and store. -/
structure SamePart (s t : State) : Prop where
  mode     : t.mode = s.mode
  uptime   : t.uptime = s.uptime
  identity : t.identity = s.identity
  store    : t.store = s.store

theorem Move.samePart {lv : Nat} (hl : lv ≤ 2) {s t : State} (h : Move lv s t) : SamePart s t := by
  cases h with
  | part m u d x h => exact absurd h (by omega)
  | _ => exact ⟨by simp, by simp, by simp, by simp⟩

theorem Moves.samePart {lv : Nat} (hl : lv ≤ 2) {s t : State} (h : Moves lv s t) : SamePart s t := by
  induction h with
  | refl => exact ⟨rfl, rfl, rfl, rfl⟩
  | tail _ m ih =>
    have k := m.samePart hl
    exact ⟨k.mode.trans ih.mode, k.uptime.trans ih.uptime, k.identity.trans ih.identity, k.store.trans ih.store⟩

/-- Site, node, loop, channel and input records. -/
structure SameRecords (s t : State) : Prop where
  site   : t.cfg.site = s.cfg.site
  nodes  : t.cfg.nodes = s.cfg.nodes
  loops  : t.cfg.loops = s.cfg.loops
  chans  : t.cfg.chans = s.cfg.chans
  inputs : t.cfg.inputs = s.cfg.inputs

theorem Move.sameRecords {lv : Nat} (hl : lv ≤ 1) {s t : State} (h : Move lv s t) : SameRecords s t := by
  cases h with
  | cfg g h => exact absurd h (by omega)
  | _ => exact ⟨by simp, by simp, by simp, by simp, by simp⟩

theorem Moves.sameRecords {lv : Nat} (hl : lv ≤ 1) {s t : State} (h : Moves lv s t) : SameRecords s t := by
  induction h with
  | refl => exact ⟨rfl, rfl, rfl, rfl, rfl⟩
  | tail _ m ih =>
    have k := m.sameRecords hl
    exact ⟨k.site.trans ih.site, k.nodes.trans ih.nodes, k.loops.trans ih.loops, k.chans.trans ih.chans,
      k.inputs.trans ih.inputs⟩

theorem Moves.link {s t : State} (h : Moves 0 s t) : t.link = s.link := by
  induction h with
  | refl => rfl
  | tail _ m ih => cases m <;> first | (simpa using ih) | omega

/-- What a command request leaves of the roof bus master's own record: all but the queues and the reports. -/
theorem busRequest_bus (s : State) (n : NodeId) (v : Int) (u : Urgency) :
    ∃ p q r, (s.busRequest n v u).bus = { s.bus with urgent := p, routine := q, lost := r } := by
  unfold State.busRequest
  dsimp only
  split
  · refine ⟨s.bus.urgent, s.bus.routine, s.bus.lost ++ [n], ?_⟩
    simp [State.commandLost]
  · split
    · simp only [modBus_bus, modShadow_bus]
      unfold Bus.replace
      cases queuedIn s.bus.urgent n with
      | true => exact ⟨_, _, _, rfl⟩
      | false => cases u <;> exact ⟨_, _, _, rfl⟩
    · simp only [modBus_bus, modShadow_bus]
      cases u <;> exact ⟨_, _, _, rfl⟩

theorem Moves.pass {s t : State} (h : Moves 0 s t) : t.bus.pass = s.bus.pass := by
  induction h with
  | refl => rfl
  | tail _ m ih =>
    cases m with
    | ask n v u =>
      rename_i x _
      obtain ⟨p, q, r, e⟩ := busRequest_bus x n v u
      rw [e]
      exact ih
    | nodes _ h => omega
    | bus _ h => omega
    | link _ h => omega
    | cfg _ h => omega
    | trace _ h => omega
    | notice _ h => omega
    | plans _ h => omega
    | part _ _ _ _ h => omega
    | _ => simpa using ih

/-! ## No report is made while no node is gone -/

theorem nodeState_modShadow (s : State) (n m : NodeId) (f : Shadow → Shadow) :
    ((s.modShadow n f).nodes[m]).state = (s.nodes[m]).state := by
  by_cases e : n.val = m.val
  · simp [e]
  · simp [Vector.getElem_set, e]

/-- What holds of each of a command request's three outcomes holds of it. -/
theorem busRequest_cases {P : State → Prop} (s : State) (n : NodeId) (v : Int) (u : Urgency)
    (gone : P ((s.modShadow n fun sh => { sh with desired := some v }).commandLost n (lostToNode v)))
    (again : P ((s.modShadow n fun sh => { sh with desired := some v }).modBus fun b => b.replace n v u))
    (first : P (((s.modShadow n fun sh => { sh with desired := some v }).modShadow n fun sh =>
      { sh with state := if sh.state = .inFlight then .inFlight else .queued }).modBus fun b => b.enqueue u ⟨n, v, 0⟩)) :
    P (s.busRequest n v u) := by
  unfold State.busRequest
  dsimp only
  split
  · exact gone
  · split
    · exact again
    · exact first

theorem nodeState_busRequest (s : State) (n m : NodeId) (v : Int) (u : Urgency) :
    ((s.busRequest n v u).nodes[m]).state = (s.nodes[m]).state := by
  refine busRequest_cases (P := fun t => (t.nodes[m]).state = (s.nodes[m]).state) s n v u ?_ ?_ ?_
  · unfold State.commandLost
    simp only [modBus_nodes, event_nodes]
    exact nodeState_modShadow s n m _
  · simp only [modBus_nodes]
    exact nodeState_modShadow s n m _
  · simp only [modBus_nodes]
    rw [nodeState_modShadow, nodeState_modShadow]

theorem replace_lost (b : Bus) (n : NodeId) (v : Int) (u : Urgency) : (b.replace n v u).lost = b.lost := by
  unfold Bus.replace
  split
  · rfl
  · cases u <;> rfl

theorem lost_busRequest {s : State} (h : AllReachable s) (n : NodeId) (v : Int) (u : Urgency) :
    (s.busRequest n v u).bus.lost = s.bus.lost := by
  unfold State.busRequest
  dsimp only
  rw [h n]
  split
  · contradiction
  · split
    · simp only [modBus_bus, modShadow_bus, replace_lost]
    · simp only [modBus_bus, modShadow_bus]
      cases u <;> rfl

theorem Moves.reachable {s t : State} (h : Moves 0 s t) (hr : AllReachable s) :
    AllReachable t ∧ t.bus.lost = s.bus.lost := by
  induction h with
  | refl => exact ⟨hr, rfl⟩
  | tail _ m ih =>
    cases m with
    | ask n v u => exact ⟨fun m => by rw [nodeState_busRequest]; exact ih.1 m, by rw [lost_busRequest ih.1]; exact ih.2⟩
    | nodes _ h => omega
    | bus _ h => omega
    | link _ h => omega
    | cfg _ h => omega
    | trace _ h => omega
    | notice _ h => omega
    | plans _ h => omega
    | part _ _ _ _ h => omega
    | offer x b => exact ⟨fun m => by simpa using ih.1 m, by simpa using ih.2⟩
    | _ => exact ih

theorem deliverN_of_none {s : State} (h : s.bus.lost = []) (k : Nat) : State.deliverN (k + 1) s = s := by
  unfold State.deliverN
  rw [h]

/-- With no report on its way a command's effect is its outcome. -/
theorem deliverLost_of_none {s : State} (h : s.bus.lost = []) : s.deliverLost = s := deliverN_of_none h _

theorem happen_of_none {s : State} (h : s.bus.lost = []) : happen s = .next s := by
  unfold happen
  rw [deliverLost_of_none h]

/-- The reports of a command are all given. -/
theorem deliverN_none (k : Nat) (s : State) : (State.deliverN k s).bus.lost = [] := by
  induction k generalizing s with
  | zero => rfl
  | succ k ih =>
    unfold State.deliverN
    split
    · assumption
    · exact ih _

theorem deliverLost_none (s : State) : s.deliverLost.bus.lost = [] := deliverN_none _ s

/-! ## The laws -/

theorem Move.queueLaw {lv : Nat} {s t : State} (h : Move lv s t) (k : QueueLaw s.bus) : QueueLaw t.bus := by
  cases h with
  | ask n v u => exact k.busRequest n v u
  | order p q hp hq => exact (((hp.append hq).map Entry.node).nodup_iff).2 k
  | bus b _ hq => exact hq k
  | offer x b => simpa using k
  | _ => exact k

theorem Move.traceLaw {lv : Nat} {s t : State} (h : Move lv s t) (k : TraceLaw s.trace) : TraceLaw t.trace := by
  cases h with
  | offer x b => exact k.offer x b
  | trace t _ ht => exact ht k
  | ask n v u =>
    refine busRequest_cases (P := fun t => TraceLaw t.trace) s n v u ?_ ?_ ?_
    · exact TraceLaw.offer (s := s.modShadow n _) k _ _
    · exact k
    · exact k
  | _ => exact k

theorem PlanLaw.set {v : Vector Plan 4} (h : ∀ l : LoopId, PlanLaw v[l]) (l : LoopId) {p : Plan} (hp : PlanLaw p) (m : LoopId) :
    PlanLaw (v.set l p)[m] := by
  by_cases e : l.val = m.val
  · simpa [Vector.getElem_set, e] using hp
  · simpa [Vector.getElem_set, e] using h m

theorem Move.planLaw {lv : Nat} {s t : State} (h : Move lv s t) (k : ∀ l : LoopId, PlanLaw s.plans[l]) (l : LoopId) :
    PlanLaw t.plans[l] := by
  cases h with
  | plan m p hp => exact PlanLaw.set k m (hp (k m)) l
  | plans v _ hv => exact hv k l
  | offer x b => simpa using k l
  | ask n v u => simpa using k l
  | _ => exact k l

theorem closeHalf_noticeLaw {s : State} (h : HalfId) (k : NoticeLaw s.notice) : NoticeLaw (s.closeHalf h).notice := k.raise _

theorem offer_noticeLaw {s : State} (k : NoticeLaw s.notice) (x : Subject) (b : TraceBody) :
    NoticeLaw (s.offer x b).notice := by
  unfold State.offer
  split
  · exact k
  · dsimp only
    split
    · exact closeHalf_noticeLaw _ k
    · exact k

theorem Move.noticeLaw {lv : Nat} {s t : State} (h : Move lv s t) (k : NoticeLaw s.notice) : NoticeLaw t.notice := by
  cases h with
  | offer x b => exact offer_noticeLaw k x b
  | raise x => exact k.raise x
  | notice n _ hn => exact hn k
  | ask n v u =>
    refine busRequest_cases (P := fun t => NoticeLaw t.notice) s n v u ?_ ?_ ?_
    · exact offer_noticeLaw (s := s.modShadow n _) k _ _
    · exact k
    · exact k
  | _ => exact k

end Sys2Proof.Machine
end

