-- ==== Sys2Proof/Laws/CoilKeeps.lean ====
section
/-! SUPPORT. What the coil unit's operations leave alone: loops, plans, frost records, inputs, and, where they do, units and
configuration. The other fields are kept by every chain of owners' moves (Laws/Moves.lean). -/

namespace Sys2Proof.Machine
set_option linter.unusedTactic false
set_option linter.unusedSimpArgs false
theorem forEach_keeps {α β : Type} (g : State → β) (s : State) (xs : List α) (f : α → State → State)
    (hf : ∀ x t, g (f x t) = g t) : g (s.forEach xs f) = g s := by
  unfold State.forEach
  induction xs generalizing s with
  | nil => rfl
  | cons x xs ih => simp only [List.foldl_cons]; rw [ih, hf]
@[simp] theorem forEach_cfg {α : Type} (s : State) (xs : List α) (f : α → State → State)
    (hf : ∀ x t, (f x t).cfg = t.cfg) : (s.forEach xs f).cfg = s.cfg := forEach_keeps State.cfg s xs f hf
@[simp] theorem forEach_plans {α : Type} (s : State) (xs : List α) (f : α → State → State)
    (hf : ∀ x t, (f x t).plans = t.plans) : (s.forEach xs f).plans = s.plans := forEach_keeps State.plans s xs f hf
@[simp] theorem forEach_loops {α : Type} (s : State) (xs : List α) (f : α → State → State)
    (hf : ∀ x t, (f x t).loops = t.loops) : (s.forEach xs f).loops = s.loops := forEach_keeps State.loops s xs f hf
@[simp] theorem forEach_units {α : Type} (s : State) (xs : List α) (f : α → State → State)
    (hf : ∀ x t, (f x t).units = t.units) : (s.forEach xs f).units = s.units := forEach_keeps State.units s xs f hf
@[simp] theorem forEach_coils {α : Type} (s : State) (xs : List α) (f : α → State → State)
    (hf : ∀ x t, (f x t).coils = t.coils) : (s.forEach xs f).coils = s.coils := forEach_keeps State.coils s xs f hf
@[simp] theorem forEach_overrides {α : Type} (s : State) (xs : List α) (f : α → State → State)
    (hf : ∀ x t, (f x t).overrides = t.overrides) : (s.forEach xs f).overrides = s.overrides := forEach_keeps State.overrides s xs f hf
@[simp] theorem forEach_frost {α : Type} (s : State) (xs : List α) (f : α → State → State)
    (hf : ∀ x t, (f x t).frost = t.frost) : (s.forEach xs f).frost = s.frost := forEach_keeps State.frost s xs f hf
@[simp] theorem forEach_summaries {α : Type} (s : State) (xs : List α) (f : α → State → State)
    (hf : ∀ x t, (f x t).summaries = t.summaries) : (s.forEach xs f).summaries = s.summaries := forEach_keeps State.summaries s xs f hf
@[simp] theorem forEach_inputs {α : Type} (s : State) (xs : List α) (f : α → State → State)
    (hf : ∀ x t, (f x t).inputs = t.inputs) : (s.forEach xs f).inputs = s.inputs := forEach_keeps State.inputs s xs f hf
@[simp] theorem setBypass_cfg (s : State) (l : LoopId) (pos : Nat) (u : Urgency) : (s.setBypass l pos u).cfg = s.cfg := by
  unfold State.setBypass
  try dsimp only
  repeat' split
  all_goals simp
@[simp] theorem setBypass_plans (s : State) (l : LoopId) (pos : Nat) (u : Urgency) : (s.setBypass l pos u).plans = s.plans := by
  unfold State.setBypass
  try dsimp only
  repeat' split
  all_goals simp
@[simp] theorem setBypass_units (s : State) (l : LoopId) (pos : Nat) (u : Urgency) : (s.setBypass l pos u).units = s.units := by
  unfold State.setBypass
  try dsimp only
  repeat' split
  all_goals simp
@[simp] theorem setBypass_frost (s : State) (l : LoopId) (pos : Nat) (u : Urgency) : (s.setBypass l pos u).frost = s.frost := by
  unfold State.setBypass
  try dsimp only
  repeat' split
  all_goals simp
@[simp] theorem setBypass_inputs (s : State) (l : LoopId) (pos : Nat) (u : Urgency) : (s.setBypass l pos u).inputs = s.inputs := by
  unfold State.setBypass
  try dsimp only
  repeat' split
  all_goals simp
@[simp] theorem setRun_cfg (s : State) (l : LoopId) (p : PumpId) (run : Bool) (u : Urgency) : (s.setRun l p run u).cfg = s.cfg := by
  unfold State.setRun
  try dsimp only
  repeat' split
  all_goals simp
@[simp] theorem setRun_plans (s : State) (l : LoopId) (p : PumpId) (run : Bool) (u : Urgency) : (s.setRun l p run u).plans = s.plans := by
  unfold State.setRun
  try dsimp only
  repeat' split
  all_goals simp
@[simp] theorem setRun_units (s : State) (l : LoopId) (p : PumpId) (run : Bool) (u : Urgency) : (s.setRun l p run u).units = s.units := by
  unfold State.setRun
  try dsimp only
  repeat' split
  all_goals simp
@[simp] theorem setRun_frost (s : State) (l : LoopId) (p : PumpId) (run : Bool) (u : Urgency) : (s.setRun l p run u).frost = s.frost := by
  unfold State.setRun
  try dsimp only
  repeat' split
  all_goals simp
@[simp] theorem setRun_inputs (s : State) (l : LoopId) (p : PumpId) (run : Bool) (u : Urgency) : (s.setRun l p run u).inputs = s.inputs := by
  unfold State.setRun
  try dsimp only
  repeat' split
  all_goals simp
@[simp] theorem restartHoldoff_cfg (s : State) (l : LoopId) : (s.restartHoldoff l).cfg = s.cfg := by
  unfold State.restartHoldoff
  try dsimp only
  repeat' split
  all_goals simp
@[simp] theorem restartHoldoff_plans (s : State) (l : LoopId) : (s.restartHoldoff l).plans = s.plans := by
  unfold State.restartHoldoff
  try dsimp only
  repeat' split
  all_goals simp
@[simp] theorem restartHoldoff_units (s : State) (l : LoopId) : (s.restartHoldoff l).units = s.units := by
  unfold State.restartHoldoff
  try dsimp only
  repeat' split
  all_goals simp
@[simp] theorem restartHoldoff_frost (s : State) (l : LoopId) : (s.restartHoldoff l).frost = s.frost := by
  unfold State.restartHoldoff
  try dsimp only
  repeat' split
  all_goals simp
@[simp] theorem restartHoldoff_inputs (s : State) (l : LoopId) : (s.restartHoldoff l).inputs = s.inputs := by
  unfold State.restartHoldoff
  try dsimp only
  repeat' split
  all_goals simp
@[simp] theorem resummarise_cfg (s : State) (l : LoopId) : (s.resummarise l).cfg = s.cfg := by
  unfold State.resummarise
  try dsimp only
  repeat' split
  all_goals simp
@[simp] theorem resummarise_plans (s : State) (l : LoopId) : (s.resummarise l).plans = s.plans := by
  unfold State.resummarise
  try dsimp only
  repeat' split
  all_goals simp
@[simp] theorem resummarise_loops (s : State) (l : LoopId) : (s.resummarise l).loops = s.loops := by
  unfold State.resummarise
  try dsimp only
  repeat' split
  all_goals simp
@[simp] theorem resummarise_units (s : State) (l : LoopId) : (s.resummarise l).units = s.units := by
  unfold State.resummarise
  try dsimp only
  repeat' split
  all_goals simp
@[simp] theorem resummarise_frost (s : State) (l : LoopId) : (s.resummarise l).frost = s.frost := by
  unfold State.resummarise
  try dsimp only
  repeat' split
  all_goals simp
@[simp] theorem resummarise_inputs (s : State) (l : LoopId) : (s.resummarise l).inputs = s.inputs := by
  unfold State.resummarise
  try dsimp only
  repeat' split
  all_goals simp
@[simp] theorem resummariseCoil_cfg (s : State) (c : CoilId) : (s.resummariseCoil c).cfg = s.cfg := by
  unfold State.resummariseCoil
  try dsimp only
  repeat' split
  all_goals simp
@[simp] theorem resummariseCoil_plans (s : State) (c : CoilId) : (s.resummariseCoil c).plans = s.plans := by
  unfold State.resummariseCoil
  try dsimp only
  repeat' split
  all_goals simp
@[simp] theorem resummariseCoil_loops (s : State) (c : CoilId) : (s.resummariseCoil c).loops = s.loops := by
  unfold State.resummariseCoil
  try dsimp only
  repeat' split
  all_goals simp
@[simp] theorem resummariseCoil_units (s : State) (c : CoilId) : (s.resummariseCoil c).units = s.units := by
  unfold State.resummariseCoil
  try dsimp only
  repeat' split
  all_goals simp
@[simp] theorem resummariseCoil_frost (s : State) (c : CoilId) : (s.resummariseCoil c).frost = s.frost := by
  unfold State.resummariseCoil
  try dsimp only
  repeat' split
  all_goals simp
@[simp] theorem resummariseCoil_inputs (s : State) (c : CoilId) : (s.resummariseCoil c).inputs = s.inputs := by
  unfold State.resummariseCoil
  try dsimp only
  repeat' split
  all_goals simp
@[simp] theorem setFan_cfg (s : State) (c : CoilId) (v : Int) (u : Urgency) : (s.setFan c v u).cfg = s.cfg := by
  unfold State.setFan
  try dsimp only
  repeat' split
  all_goals simp
@[simp] theorem setFan_plans (s : State) (c : CoilId) (v : Int) (u : Urgency) : (s.setFan c v u).plans = s.plans := by
  unfold State.setFan
  try dsimp only
  repeat' split
  all_goals simp
@[simp] theorem setFan_loops (s : State) (c : CoilId) (v : Int) (u : Urgency) : (s.setFan c v u).loops = s.loops := by
  unfold State.setFan
  try dsimp only
  repeat' split
  all_goals simp
@[simp] theorem setFan_units (s : State) (c : CoilId) (v : Int) (u : Urgency) : (s.setFan c v u).units = s.units := by
  unfold State.setFan
  try dsimp only
  repeat' split
  all_goals simp
@[simp] theorem setFan_frost (s : State) (c : CoilId) (v : Int) (u : Urgency) : (s.setFan c v u).frost = s.frost := by
  unfold State.setFan
  try dsimp only
  repeat' split
  all_goals simp
@[simp] theorem setFan_inputs (s : State) (c : CoilId) (v : Int) (u : Urgency) : (s.setFan c v u).inputs = s.inputs := by
  unfold State.setFan
  try dsimp only
  repeat' split
  all_goals simp
@[simp] theorem refan_cfg (s : State) (c : CoilId) (u : Urgency) : (s.refan c u).cfg = s.cfg := by
  unfold State.refan
  try dsimp only
  repeat' split
  all_goals simp
@[simp] theorem refan_plans (s : State) (c : CoilId) (u : Urgency) : (s.refan c u).plans = s.plans := by
  unfold State.refan
  try dsimp only
  repeat' split
  all_goals simp
@[simp] theorem refan_loops (s : State) (c : CoilId) (u : Urgency) : (s.refan c u).loops = s.loops := by
  unfold State.refan
  try dsimp only
  repeat' split
  all_goals simp
@[simp] theorem refan_units (s : State) (c : CoilId) (u : Urgency) : (s.refan c u).units = s.units := by
  unfold State.refan
  try dsimp only
  repeat' split
  all_goals simp
@[simp] theorem refan_frost (s : State) (c : CoilId) (u : Urgency) : (s.refan c u).frost = s.frost := by
  unfold State.refan
  try dsimp only
  repeat' split
  all_goals simp
@[simp] theorem refan_inputs (s : State) (c : CoilId) (u : Urgency) : (s.refan c u).inputs = s.inputs := by
  unfold State.refan
  try dsimp only
  repeat' split
  all_goals simp
@[simp] theorem refanLoop_cfg (s : State) (l : LoopId) (u : Urgency) : (s.refanLoop l u).cfg = s.cfg := by
  unfold State.refanLoop
  try dsimp only
  repeat' split
  all_goals simp
@[simp] theorem refanLoop_plans (s : State) (l : LoopId) (u : Urgency) : (s.refanLoop l u).plans = s.plans := by
  unfold State.refanLoop
  try dsimp only
  repeat' split
  all_goals simp
@[simp] theorem refanLoop_loops (s : State) (l : LoopId) (u : Urgency) : (s.refanLoop l u).loops = s.loops := by
  unfold State.refanLoop
  try dsimp only
  repeat' split
  all_goals simp
@[simp] theorem refanLoop_units (s : State) (l : LoopId) (u : Urgency) : (s.refanLoop l u).units = s.units := by
  unfold State.refanLoop
  try dsimp only
  repeat' split
  all_goals simp
@[simp] theorem refanLoop_frost (s : State) (l : LoopId) (u : Urgency) : (s.refanLoop l u).frost = s.frost := by
  unfold State.refanLoop
  try dsimp only
  repeat' split
  all_goals simp
@[simp] theorem refanLoop_inputs (s : State) (l : LoopId) (u : Urgency) : (s.refanLoop l u).inputs = s.inputs := by
  unfold State.refanLoop
  try dsimp only
  repeat' split
  all_goals simp
@[simp] theorem setValve_cfg (s : State) (c : CoilId) (pos : Nat) (u : Urgency) : (s.setValve c pos u).cfg = s.cfg := by
  unfold State.setValve
  try dsimp only
  repeat' split
  all_goals simp
@[simp] theorem setValve_plans (s : State) (c : CoilId) (pos : Nat) (u : Urgency) : (s.setValve c pos u).plans = s.plans := by
  unfold State.setValve
  try dsimp only
  repeat' split
  all_goals simp
@[simp] theorem setValve_loops (s : State) (c : CoilId) (pos : Nat) (u : Urgency) : (s.setValve c pos u).loops = s.loops := by
  unfold State.setValve
  try dsimp only
  repeat' split
  all_goals simp
@[simp] theorem setValve_units (s : State) (c : CoilId) (pos : Nat) (u : Urgency) : (s.setValve c pos u).units = s.units := by
  unfold State.setValve
  try dsimp only
  repeat' split
  all_goals simp
@[simp] theorem setValve_frost (s : State) (c : CoilId) (pos : Nat) (u : Urgency) : (s.setValve c pos u).frost = s.frost := by
  unfold State.setValve
  try dsimp only
  repeat' split
  all_goals simp
@[simp] theorem setValve_inputs (s : State) (c : CoilId) (pos : Nat) (u : Urgency) : (s.setValve c pos u).inputs = s.inputs := by
  unfold State.setValve
  try dsimp only
  repeat' split
  all_goals simp
@[simp] theorem leaveKwQueue_cfg (s : State) (l : LoopId) (c : CoilId) : (s.leaveKwQueue l c).cfg = s.cfg := by
  unfold State.leaveKwQueue
  try dsimp only
  repeat' split
  all_goals simp
@[simp] theorem leaveKwQueue_plans (s : State) (l : LoopId) (c : CoilId) : (s.leaveKwQueue l c).plans = s.plans := by
  unfold State.leaveKwQueue
  try dsimp only
  repeat' split
  all_goals simp
@[simp] theorem leaveKwQueue_loops (s : State) (l : LoopId) (c : CoilId) : (s.leaveKwQueue l c).loops = s.loops := by
  unfold State.leaveKwQueue
  try dsimp only
  repeat' split
  all_goals simp
@[simp] theorem leaveKwQueue_frost (s : State) (l : LoopId) (c : CoilId) : (s.leaveKwQueue l c).frost = s.frost := by
  unfold State.leaveKwQueue
  try dsimp only
  repeat' split
  all_goals simp
@[simp] theorem leaveKwQueue_inputs (s : State) (l : LoopId) (c : CoilId) : (s.leaveKwQueue l c).inputs = s.inputs := by
  unfold State.leaveKwQueue
  try dsimp only
  repeat' split
  all_goals simp
@[simp] theorem leaveShedQueue_cfg (s : State) (l : LoopId) (c : CoilId) : (s.leaveShedQueue l c).cfg = s.cfg := by
  unfold State.leaveShedQueue
  try dsimp only
  repeat' split
  all_goals simp
@[simp] theorem leaveShedQueue_plans (s : State) (l : LoopId) (c : CoilId) : (s.leaveShedQueue l c).plans = s.plans := by
  unfold State.leaveShedQueue
  try dsimp only
  repeat' split
  all_goals simp
@[simp] theorem leaveShedQueue_loops (s : State) (l : LoopId) (c : CoilId) : (s.leaveShedQueue l c).loops = s.loops := by
  unfold State.leaveShedQueue
  try dsimp only
  repeat' split
  all_goals simp
@[simp] theorem leaveShedQueue_frost (s : State) (l : LoopId) (c : CoilId) : (s.leaveShedQueue l c).frost = s.frost := by
  unfold State.leaveShedQueue
  try dsimp only
  repeat' split
  all_goals simp
@[simp] theorem leaveShedQueue_inputs (s : State) (l : LoopId) (c : CoilId) : (s.leaveShedQueue l c).inputs = s.inputs := by
  unfold State.leaveShedQueue
  try dsimp only
  repeat' split
  all_goals simp
@[simp] theorem freePermit_cfg (s : State) (l : LoopId) (c : CoilId) : (s.freePermit l c).cfg = s.cfg := by
  unfold State.freePermit
  try dsimp only
  repeat' split
  all_goals simp
@[simp] theorem freePermit_plans (s : State) (l : LoopId) (c : CoilId) : (s.freePermit l c).plans = s.plans := by
  unfold State.freePermit
  try dsimp only
  repeat' split
  all_goals simp
@[simp] theorem freePermit_loops (s : State) (l : LoopId) (c : CoilId) : (s.freePermit l c).loops = s.loops := by
  unfold State.freePermit
  try dsimp only
  repeat' split
  all_goals simp
@[simp] theorem freePermit_frost (s : State) (l : LoopId) (c : CoilId) : (s.freePermit l c).frost = s.frost := by
  unfold State.freePermit
  try dsimp only
  repeat' split
  all_goals simp
@[simp] theorem freePermit_inputs (s : State) (l : LoopId) (c : CoilId) : (s.freePermit l c).inputs = s.inputs := by
  unfold State.freePermit
  try dsimp only
  repeat' split
  all_goals simp
@[simp] theorem uncount_cfg (s : State) (l : LoopId) (was : Service) : (s.uncount l was).cfg = s.cfg := by
  unfold State.uncount
  try dsimp only
  repeat' split
  all_goals simp
@[simp] theorem uncount_plans (s : State) (l : LoopId) (was : Service) : (s.uncount l was).plans = s.plans := by
  unfold State.uncount
  try dsimp only
  repeat' split
  all_goals simp
@[simp] theorem uncount_loops (s : State) (l : LoopId) (was : Service) : (s.uncount l was).loops = s.loops := by
  unfold State.uncount
  try dsimp only
  repeat' split
  all_goals simp
@[simp] theorem uncount_frost (s : State) (l : LoopId) (was : Service) : (s.uncount l was).frost = s.frost := by
  unfold State.uncount
  try dsimp only
  repeat' split
  all_goals simp
@[simp] theorem uncount_inputs (s : State) (l : LoopId) (was : Service) : (s.uncount l was).inputs = s.inputs := by
  unfold State.uncount
  try dsimp only
  repeat' split
  all_goals simp
@[simp] theorem noteServing_cfg (s : State) (l : LoopId) (before : Nat) : (s.noteServing l before).cfg = s.cfg := by
  unfold State.noteServing
  try dsimp only
  repeat' split
  all_goals simp
@[simp] theorem noteServing_plans (s : State) (l : LoopId) (before : Nat) : (s.noteServing l before).plans = s.plans := by
  unfold State.noteServing
  try dsimp only
  repeat' split
  all_goals simp
@[simp] theorem noteServing_units (s : State) (l : LoopId) (before : Nat) : (s.noteServing l before).units = s.units := by
  unfold State.noteServing
  try dsimp only
  repeat' split
  all_goals simp
@[simp] theorem noteServing_frost (s : State) (l : LoopId) (before : Nat) : (s.noteServing l before).frost = s.frost := by
  unfold State.noteServing
  try dsimp only
  repeat' split
  all_goals simp
@[simp] theorem noteServing_inputs (s : State) (l : LoopId) (before : Nat) : (s.noteServing l before).inputs = s.inputs := by
  unfold State.noteServing
  try dsimp only
  repeat' split
  all_goals simp
@[simp] theorem startScheduled_cfg (s : State) (l : LoopId) : (s.startScheduled l).cfg = s.cfg := by
  unfold State.startScheduled
  try dsimp only
  repeat' split
  all_goals simp
@[simp] theorem startScheduled_plans (s : State) (l : LoopId) : (s.startScheduled l).plans = s.plans := by
  unfold State.startScheduled
  try dsimp only
  repeat' split
  all_goals simp
@[simp] theorem startScheduled_loops (s : State) (l : LoopId) : (s.startScheduled l).loops = s.loops := by
  unfold State.startScheduled
  try dsimp only
  repeat' split
  all_goals simp
@[simp] theorem startScheduled_frost (s : State) (l : LoopId) : (s.startScheduled l).frost = s.frost := by
  unfold State.startScheduled
  try dsimp only
  repeat' split
  all_goals simp
@[simp] theorem startScheduled_inputs (s : State) (l : LoopId) : (s.startScheduled l).inputs = s.inputs := by
  unfold State.startScheduled
  try dsimp only
  repeat' split
  all_goals simp
@[simp] theorem serveKw_cfg (s : State) (l : LoopId) : (s.serveKw l).cfg = s.cfg := by
  unfold State.serveKw
  rw [oneEvent_cfg]
  try dsimp only
  repeat' split
  all_goals simp
@[simp] theorem serveKw_plans (s : State) (l : LoopId) : (s.serveKw l).plans = s.plans := by
  unfold State.serveKw
  rw [oneEvent_plans]
  try dsimp only
  repeat' split
  all_goals simp
@[simp] theorem serveKw_loops (s : State) (l : LoopId) : (s.serveKw l).loops = s.loops := by
  unfold State.serveKw
  rw [oneEvent_loops]
  try dsimp only
  repeat' split
  all_goals simp
@[simp] theorem serveKw_frost (s : State) (l : LoopId) : (s.serveKw l).frost = s.frost := by
  unfold State.serveKw
  rw [oneEvent_frost]
  try dsimp only
  repeat' split
  all_goals simp
@[simp] theorem serveKw_inputs (s : State) (l : LoopId) : (s.serveKw l).inputs = s.inputs := by
  unfold State.serveKw
  rw [oneEvent_inputs]
  try dsimp only
  repeat' split
  all_goals simp
@[simp] theorem takeShedHead_cfg (s : State) (l : LoopId) : (s.takeShedHead l).cfg = s.cfg := by
  unfold State.takeShedHead
  try dsimp only
  repeat' split
  all_goals simp
@[simp] theorem takeShedHead_plans (s : State) (l : LoopId) : (s.takeShedHead l).plans = s.plans := by
  unfold State.takeShedHead
  try dsimp only
  repeat' split
  all_goals simp
@[simp] theorem takeShedHead_loops (s : State) (l : LoopId) : (s.takeShedHead l).loops = s.loops := by
  unfold State.takeShedHead
  try dsimp only
  repeat' split
  all_goals simp
@[simp] theorem takeShedHead_frost (s : State) (l : LoopId) : (s.takeShedHead l).frost = s.frost := by
  unfold State.takeShedHead
  try dsimp only
  repeat' split
  all_goals simp
@[simp] theorem takeShedHead_inputs (s : State) (l : LoopId) : (s.takeShedHead l).inputs = s.inputs := by
  unfold State.takeShedHead
  try dsimp only
  repeat' split
  all_goals simp
@[simp] theorem serveShed_cfg (s : State) (l : LoopId) : (s.serveShed l).cfg = s.cfg := by
  unfold State.serveShed
  try dsimp only
  repeat' split
  all_goals simp
@[simp] theorem serveShed_plans (s : State) (l : LoopId) : (s.serveShed l).plans = s.plans := by
  unfold State.serveShed
  try dsimp only
  repeat' split
  all_goals simp
@[simp] theorem serveShed_loops (s : State) (l : LoopId) : (s.serveShed l).loops = s.loops := by
  unfold State.serveShed
  try dsimp only
  repeat' split
  all_goals simp
@[simp] theorem serveShed_frost (s : State) (l : LoopId) : (s.serveShed l).frost = s.frost := by
  unfold State.serveShed
  try dsimp only
  repeat' split
  all_goals simp
@[simp] theorem serveShed_inputs (s : State) (l : LoopId) : (s.serveShed l).inputs = s.inputs := by
  unfold State.serveShed
  try dsimp only
  repeat' split
  all_goals simp
@[simp] theorem rotateRoster_plans (s : State) (l : LoopId) : (s.rotateRoster l).plans = s.plans := by
  unfold State.rotateRoster
  try dsimp only
  repeat' split
  all_goals simp
@[simp] theorem rotateRoster_loops (s : State) (l : LoopId) : (s.rotateRoster l).loops = s.loops := by
  unfold State.rotateRoster
  try dsimp only
  repeat' split
  all_goals simp
@[simp] theorem rotateRoster_units (s : State) (l : LoopId) : (s.rotateRoster l).units = s.units := by
  unfold State.rotateRoster
  try dsimp only
  repeat' split
  all_goals simp
@[simp] theorem rotateRoster_frost (s : State) (l : LoopId) : (s.rotateRoster l).frost = s.frost := by
  unfold State.rotateRoster
  try dsimp only
  repeat' split
  all_goals simp
@[simp] theorem rotateRoster_inputs (s : State) (l : LoopId) : (s.rotateRoster l).inputs = s.inputs := by
  unfold State.rotateRoster
  try dsimp only
  repeat' split
  all_goals simp
@[simp] theorem autoRotate_plans (s : State) (l : LoopId) : (s.autoRotate l).plans = s.plans := by
  unfold State.autoRotate
  try dsimp only
  repeat' split
  all_goals simp
@[simp] theorem autoRotate_loops (s : State) (l : LoopId) : (s.autoRotate l).loops = s.loops := by
  unfold State.autoRotate
  try dsimp only
  repeat' split
  all_goals simp
@[simp] theorem autoRotate_units (s : State) (l : LoopId) : (s.autoRotate l).units = s.units := by
  unfold State.autoRotate
  try dsimp only
  repeat' split
  all_goals simp
@[simp] theorem autoRotate_frost (s : State) (l : LoopId) : (s.autoRotate l).frost = s.frost := by
  unfold State.autoRotate
  try dsimp only
  repeat' split
  all_goals simp
@[simp] theorem autoRotate_inputs (s : State) (l : LoopId) : (s.autoRotate l).inputs = s.inputs := by
  unfold State.autoRotate
  try dsimp only
  repeat' split
  all_goals simp
@[simp] theorem deferredRotation_plans (s : State) (l : LoopId) : (s.deferredRotation l).plans = s.plans := by
  unfold State.deferredRotation
  try dsimp only
  repeat' split
  all_goals simp
@[simp] theorem deferredRotation_loops (s : State) (l : LoopId) : (s.deferredRotation l).loops = s.loops := by
  unfold State.deferredRotation
  try dsimp only
  repeat' split
  all_goals simp
@[simp] theorem deferredRotation_frost (s : State) (l : LoopId) : (s.deferredRotation l).frost = s.frost := by
  unfold State.deferredRotation
  try dsimp only
  repeat' split
  all_goals simp
@[simp] theorem deferredRotation_inputs (s : State) (l : LoopId) : (s.deferredRotation l).inputs = s.inputs := by
  unfold State.deferredRotation
  try dsimp only
  repeat' split
  all_goals simp
@[simp] theorem stagingEnded_plans (s : State) (l : LoopId) : (s.stagingEnded l).plans = s.plans := by
  unfold State.stagingEnded
  try dsimp only
  repeat' split
  all_goals simp
@[simp] theorem stagingEnded_frost (s : State) (l : LoopId) : (s.stagingEnded l).frost = s.frost := by
  unfold State.stagingEnded
  try dsimp only
  repeat' split
  all_goals simp
@[simp] theorem stagingEnded_inputs (s : State) (l : LoopId) : (s.stagingEnded l).inputs = s.inputs := by
  unfold State.stagingEnded
  try dsimp only
  repeat' split
  all_goals simp
@[simp] theorem toIsolated_cfg (s : State) (c : CoilId) (l : LoopId) : (s.toIsolated c l).cfg = s.cfg := by
  unfold State.toIsolated
  try dsimp only
  repeat' split
  all_goals simp
@[simp] theorem toIsolated_plans (s : State) (c : CoilId) (l : LoopId) : (s.toIsolated c l).plans = s.plans := by
  unfold State.toIsolated
  try dsimp only
  repeat' split
  all_goals simp
@[simp] theorem toIsolated_loops (s : State) (c : CoilId) (l : LoopId) : (s.toIsolated c l).loops = s.loops := by
  unfold State.toIsolated
  try dsimp only
  repeat' split
  all_goals simp
@[simp] theorem toIsolated_units (s : State) (c : CoilId) (l : LoopId) : (s.toIsolated c l).units = s.units := by
  unfold State.toIsolated
  try dsimp only
  repeat' split
  all_goals simp
@[simp] theorem toIsolated_frost (s : State) (c : CoilId) (l : LoopId) : (s.toIsolated c l).frost = s.frost := by
  unfold State.toIsolated
  try dsimp only
  repeat' split
  all_goals simp
@[simp] theorem toIsolated_inputs (s : State) (c : CoilId) (l : LoopId) : (s.toIsolated c l).inputs = s.inputs := by
  unfold State.toIsolated
  try dsimp only
  repeat' split
  all_goals simp
@[simp] theorem watchRequest_cfg (s : State) (c : CoilId) (l : LoopId) : (s.watchRequest c l).cfg = s.cfg := by
  unfold State.watchRequest
  try dsimp only
  repeat' split
  all_goals simp
@[simp] theorem watchRequest_plans (s : State) (c : CoilId) (l : LoopId) : (s.watchRequest c l).plans = s.plans := by
  unfold State.watchRequest
  try dsimp only
  repeat' split
  all_goals simp
@[simp] theorem watchRequest_loops (s : State) (c : CoilId) (l : LoopId) : (s.watchRequest c l).loops = s.loops := by
  unfold State.watchRequest
  try dsimp only
  repeat' split
  all_goals simp
@[simp] theorem watchRequest_frost (s : State) (c : CoilId) (l : LoopId) : (s.watchRequest c l).frost = s.frost := by
  unfold State.watchRequest
  try dsimp only
  repeat' split
  all_goals simp
@[simp] theorem watchRequest_inputs (s : State) (c : CoilId) (l : LoopId) : (s.watchRequest c l).inputs = s.inputs := by
  unfold State.watchRequest
  try dsimp only
  repeat' split
  all_goals simp
@[simp] theorem tripRequest_cfg (s : State) (c : CoilId) (l : LoopId) : (s.tripRequest c l).cfg = s.cfg := by
  unfold State.tripRequest
  try dsimp only
  repeat' split
  all_goals simp
@[simp] theorem tripRequest_plans (s : State) (c : CoilId) (l : LoopId) : (s.tripRequest c l).plans = s.plans := by
  unfold State.tripRequest
  try dsimp only
  repeat' split
  all_goals simp
@[simp] theorem tripRequest_loops (s : State) (c : CoilId) (l : LoopId) : (s.tripRequest c l).loops = s.loops := by
  unfold State.tripRequest
  try dsimp only
  repeat' split
  all_goals simp
@[simp] theorem tripRequest_frost (s : State) (c : CoilId) (l : LoopId) : (s.tripRequest c l).frost = s.frost := by
  unfold State.tripRequest
  try dsimp only
  repeat' split
  all_goals simp
@[simp] theorem tripRequest_inputs (s : State) (c : CoilId) (l : LoopId) : (s.tripRequest c l).inputs = s.inputs := by
  unfold State.tripRequest
  try dsimp only
  repeat' split
  all_goals simp
@[simp] theorem emergency_cfg (s : State) (c : CoilId) (l : LoopId) : (s.emergency c l).cfg = s.cfg := by
  unfold State.emergency
  try dsimp only
  repeat' split
  all_goals simp
@[simp] theorem emergency_plans (s : State) (c : CoilId) (l : LoopId) : (s.emergency c l).plans = s.plans := by
  unfold State.emergency
  try dsimp only
  repeat' split
  all_goals simp
@[simp] theorem emergency_loops (s : State) (c : CoilId) (l : LoopId) : (s.emergency c l).loops = s.loops := by
  unfold State.emergency
  try dsimp only
  repeat' split
  all_goals simp
@[simp] theorem emergency_frost (s : State) (c : CoilId) (l : LoopId) : (s.emergency c l).frost = s.frost := by
  unfold State.emergency
  try dsimp only
  repeat' split
  all_goals simp
@[simp] theorem emergency_inputs (s : State) (c : CoilId) (l : LoopId) : (s.emergency c l).inputs = s.inputs := by
  unfold State.emergency
  try dsimp only
  repeat' split
  all_goals simp
@[simp] theorem endCycle_cfg (s : State) (c : CoilId) (l : LoopId) (u : Urgency) : (s.endCycle c l u).cfg = s.cfg := by
  unfold State.endCycle
  try dsimp only
  repeat' split
  all_goals simp
@[simp] theorem endCycle_plans (s : State) (c : CoilId) (l : LoopId) (u : Urgency) : (s.endCycle c l u).plans = s.plans := by
  unfold State.endCycle
  try dsimp only
  repeat' split
  all_goals simp
@[simp] theorem endCycle_loops (s : State) (c : CoilId) (l : LoopId) (u : Urgency) : (s.endCycle c l u).loops = s.loops := by
  unfold State.endCycle
  try dsimp only
  repeat' split
  all_goals simp
@[simp] theorem endCycle_frost (s : State) (c : CoilId) (l : LoopId) (u : Urgency) : (s.endCycle c l u).frost = s.frost := by
  unfold State.endCycle
  try dsimp only
  repeat' split
  all_goals simp
@[simp] theorem endCycle_inputs (s : State) (c : CoilId) (l : LoopId) (u : Urgency) : (s.endCycle c l u).inputs = s.inputs := by
  unfold State.endCycle
  try dsimp only
  repeat' split
  all_goals simp
@[simp] theorem kwTimerExpired_cfg (s : State) (c : CoilId) (l : LoopId) : (s.kwTimerExpired c l).cfg = s.cfg := by
  unfold State.kwTimerExpired
  try dsimp only
  repeat' split
  all_goals simp
@[simp] theorem kwTimerExpired_plans (s : State) (c : CoilId) (l : LoopId) : (s.kwTimerExpired c l).plans = s.plans := by
  unfold State.kwTimerExpired
  try dsimp only
  repeat' split
  all_goals simp
@[simp] theorem kwTimerExpired_loops (s : State) (c : CoilId) (l : LoopId) : (s.kwTimerExpired c l).loops = s.loops := by
  unfold State.kwTimerExpired
  try dsimp only
  repeat' split
  all_goals simp
@[simp] theorem kwTimerExpired_frost (s : State) (c : CoilId) (l : LoopId) : (s.kwTimerExpired c l).frost = s.frost := by
  unfold State.kwTimerExpired
  try dsimp only
  repeat' split
  all_goals simp
@[simp] theorem kwTimerExpired_inputs (s : State) (c : CoilId) (l : LoopId) : (s.kwTimerExpired c l).inputs = s.inputs := by
  unfold State.kwTimerExpired
  try dsimp only
  repeat' split
  all_goals simp
@[simp] theorem kwDwellExpired_cfg (s : State) (c : CoilId) (l : LoopId) : (s.kwDwellExpired c l).cfg = s.cfg := by
  unfold State.kwDwellExpired
  rw [oneEvent_cfg]
  try dsimp only
  repeat' split
  all_goals simp
@[simp] theorem kwDwellExpired_plans (s : State) (c : CoilId) (l : LoopId) : (s.kwDwellExpired c l).plans = s.plans := by
  unfold State.kwDwellExpired
  rw [oneEvent_plans]
  try dsimp only
  repeat' split
  all_goals simp
@[simp] theorem kwDwellExpired_loops (s : State) (c : CoilId) (l : LoopId) : (s.kwDwellExpired c l).loops = s.loops := by
  unfold State.kwDwellExpired
  rw [oneEvent_loops]
  try dsimp only
  repeat' split
  all_goals simp
@[simp] theorem kwDwellExpired_frost (s : State) (c : CoilId) (l : LoopId) : (s.kwDwellExpired c l).frost = s.frost := by
  unfold State.kwDwellExpired
  rw [oneEvent_frost]
  try dsimp only
  repeat' split
  all_goals simp
@[simp] theorem kwDwellExpired_inputs (s : State) (c : CoilId) (l : LoopId) : (s.kwDwellExpired c l).inputs = s.inputs := by
  unfold State.kwDwellExpired
  rw [oneEvent_inputs]
  try dsimp only
  repeat' split
  all_goals simp
@[simp] theorem shedTrigger_cfg (s : State) (c : CoilId) : (s.shedTrigger c).cfg = s.cfg := by
  unfold State.shedTrigger
  try dsimp only
  repeat' split
  all_goals simp
@[simp] theorem shedTrigger_plans (s : State) (c : CoilId) : (s.shedTrigger c).plans = s.plans := by
  unfold State.shedTrigger
  try dsimp only
  repeat' split
  all_goals simp
@[simp] theorem shedTrigger_loops (s : State) (c : CoilId) : (s.shedTrigger c).loops = s.loops := by
  unfold State.shedTrigger
  try dsimp only
  repeat' split
  all_goals simp
@[simp] theorem shedTrigger_frost (s : State) (c : CoilId) : (s.shedTrigger c).frost = s.frost := by
  unfold State.shedTrigger
  try dsimp only
  repeat' split
  all_goals simp
@[simp] theorem shedTrigger_inputs (s : State) (c : CoilId) : (s.shedTrigger c).inputs = s.inputs := by
  unfold State.shedTrigger
  try dsimp only
  repeat' split
  all_goals simp
@[simp] theorem snowTrigger_cfg (s : State) : (s.snowTrigger).cfg = s.cfg := by
  unfold State.snowTrigger
  rw [oneEvent_cfg]
  try dsimp only
  repeat' split
  all_goals simp
@[simp] theorem snowTrigger_plans (s : State) : (s.snowTrigger).plans = s.plans := by
  unfold State.snowTrigger
  rw [oneEvent_plans]
  try dsimp only
  repeat' split
  all_goals simp
@[simp] theorem snowTrigger_loops (s : State) : (s.snowTrigger).loops = s.loops := by
  unfold State.snowTrigger
  rw [oneEvent_loops]
  try dsimp only
  repeat' split
  all_goals simp
@[simp] theorem snowTrigger_frost (s : State) : (s.snowTrigger).frost = s.frost := by
  unfold State.snowTrigger
  rw [oneEvent_frost]
  try dsimp only
  repeat' split
  all_goals simp
@[simp] theorem snowTrigger_inputs (s : State) : (s.snowTrigger).inputs = s.inputs := by
  unfold State.snowTrigger
  rw [oneEvent_inputs]
  try dsimp only
  repeat' split
  all_goals simp
@[simp] theorem leaveShedding_cfg (s : State) (c : CoilId) (l : LoopId) (cause : String) (u : Urgency) : (s.leaveShedding c l cause u).cfg = s.cfg := by
  unfold State.leaveShedding
  try dsimp only
  repeat' split
  all_goals simp
@[simp] theorem leaveShedding_plans (s : State) (c : CoilId) (l : LoopId) (cause : String) (u : Urgency) : (s.leaveShedding c l cause u).plans = s.plans := by
  unfold State.leaveShedding
  try dsimp only
  repeat' split
  all_goals simp
@[simp] theorem leaveShedding_loops (s : State) (c : CoilId) (l : LoopId) (cause : String) (u : Urgency) : (s.leaveShedding c l cause u).loops = s.loops := by
  unfold State.leaveShedding
  try dsimp only
  repeat' split
  all_goals simp
@[simp] theorem leaveShedding_frost (s : State) (c : CoilId) (l : LoopId) (cause : String) (u : Urgency) : (s.leaveShedding c l cause u).frost = s.frost := by
  unfold State.leaveShedding
  try dsimp only
  repeat' split
  all_goals simp
@[simp] theorem leaveShedding_inputs (s : State) (c : CoilId) (l : LoopId) (cause : String) (u : Urgency) : (s.leaveShedding c l cause u).inputs = s.inputs := by
  unfold State.leaveShedding
  try dsimp only
  repeat' split
  all_goals simp
@[simp] theorem leaveSheddingIf_cfg (s : State) (c : CoilId) (cause : String) (u : Urgency) : (s.leaveSheddingIf c cause u).cfg = s.cfg := by
  unfold State.leaveSheddingIf
  try dsimp only
  repeat' split
  all_goals simp
@[simp] theorem leaveSheddingIf_plans (s : State) (c : CoilId) (cause : String) (u : Urgency) : (s.leaveSheddingIf c cause u).plans = s.plans := by
  unfold State.leaveSheddingIf
  try dsimp only
  repeat' split
  all_goals simp
@[simp] theorem leaveSheddingIf_loops (s : State) (c : CoilId) (cause : String) (u : Urgency) : (s.leaveSheddingIf c cause u).loops = s.loops := by
  unfold State.leaveSheddingIf
  try dsimp only
  repeat' split
  all_goals simp
@[simp] theorem leaveSheddingIf_frost (s : State) (c : CoilId) (cause : String) (u : Urgency) : (s.leaveSheddingIf c cause u).frost = s.frost := by
  unfold State.leaveSheddingIf
  try dsimp only
  repeat' split
  all_goals simp
@[simp] theorem leaveSheddingIf_inputs (s : State) (c : CoilId) (cause : String) (u : Urgency) : (s.leaveSheddingIf c cause u).inputs = s.inputs := by
  unfold State.leaveSheddingIf
  try dsimp only
  repeat' split
  all_goals simp
@[simp] theorem endShedding_cfg (s : State) (c : CoilId) (l : LoopId) (cause : String) (u : Urgency) : (s.endShedding c l cause u).cfg = s.cfg := by
  unfold State.endShedding
  rw [oneEvent_cfg]
  try dsimp only
  repeat' split
  all_goals simp
@[simp] theorem endShedding_plans (s : State) (c : CoilId) (l : LoopId) (cause : String) (u : Urgency) : (s.endShedding c l cause u).plans = s.plans := by
  unfold State.endShedding
  rw [oneEvent_plans]
  try dsimp only
  repeat' split
  all_goals simp
@[simp] theorem endShedding_loops (s : State) (c : CoilId) (l : LoopId) (cause : String) (u : Urgency) : (s.endShedding c l cause u).loops = s.loops := by
  unfold State.endShedding
  rw [oneEvent_loops]
  try dsimp only
  repeat' split
  all_goals simp
@[simp] theorem endShedding_frost (s : State) (c : CoilId) (l : LoopId) (cause : String) (u : Urgency) : (s.endShedding c l cause u).frost = s.frost := by
  unfold State.endShedding
  rw [oneEvent_frost]
  try dsimp only
  repeat' split
  all_goals simp
@[simp] theorem endShedding_inputs (s : State) (c : CoilId) (l : LoopId) (cause : String) (u : Urgency) : (s.endShedding c l cause u).inputs = s.inputs := by
  unfold State.endShedding
  rw [oneEvent_inputs]
  try dsimp only
  repeat' split
  all_goals simp
@[simp] theorem endSheddingIf_cfg (s : State) (c : CoilId) (cause : String) (u : Urgency) : (s.endSheddingIf c cause u).cfg = s.cfg := by
  unfold State.endSheddingIf
  try dsimp only
  repeat' split
  all_goals simp
@[simp] theorem endSheddingIf_plans (s : State) (c : CoilId) (cause : String) (u : Urgency) : (s.endSheddingIf c cause u).plans = s.plans := by
  unfold State.endSheddingIf
  try dsimp only
  repeat' split
  all_goals simp
@[simp] theorem endSheddingIf_loops (s : State) (c : CoilId) (cause : String) (u : Urgency) : (s.endSheddingIf c cause u).loops = s.loops := by
  unfold State.endSheddingIf
  try dsimp only
  repeat' split
  all_goals simp
@[simp] theorem endSheddingIf_frost (s : State) (c : CoilId) (cause : String) (u : Urgency) : (s.endSheddingIf c cause u).frost = s.frost := by
  unfold State.endSheddingIf
  try dsimp only
  repeat' split
  all_goals simp
@[simp] theorem endSheddingIf_inputs (s : State) (c : CoilId) (cause : String) (u : Urgency) : (s.endSheddingIf c cause u).inputs = s.inputs := by
  unfold State.endSheddingIf
  try dsimp only
  repeat' split
  all_goals simp
@[simp] theorem startAdmission_cfg (s : State) (c : CoilId) (l : LoopId) : (s.startAdmission c l).cfg = s.cfg := by
  unfold State.startAdmission
  rw [oneEvent_cfg]
  try dsimp only
  repeat' split
  all_goals simp
@[simp] theorem startAdmission_plans (s : State) (c : CoilId) (l : LoopId) : (s.startAdmission c l).plans = s.plans := by
  unfold State.startAdmission
  rw [oneEvent_plans]
  try dsimp only
  repeat' split
  all_goals simp
@[simp] theorem startAdmission_loops (s : State) (c : CoilId) (l : LoopId) : (s.startAdmission c l).loops = s.loops := by
  unfold State.startAdmission
  rw [oneEvent_loops]
  try dsimp only
  repeat' split
  all_goals simp
@[simp] theorem startAdmission_frost (s : State) (c : CoilId) (l : LoopId) : (s.startAdmission c l).frost = s.frost := by
  unfold State.startAdmission
  rw [oneEvent_frost]
  try dsimp only
  repeat' split
  all_goals simp
@[simp] theorem startAdmission_inputs (s : State) (c : CoilId) (l : LoopId) : (s.startAdmission c l).inputs = s.inputs := by
  unfold State.startAdmission
  rw [oneEvent_inputs]
  try dsimp only
  repeat' split
  all_goals simp
@[simp] theorem startDwell_cfg (s : State) (c : CoilId) (l : LoopId) (k : Nat) (held : Bool) : (s.startDwell c l k held).cfg = s.cfg := by
  unfold State.startDwell
  try dsimp only
  repeat' split
  all_goals simp
@[simp] theorem startDwell_plans (s : State) (c : CoilId) (l : LoopId) (k : Nat) (held : Bool) : (s.startDwell c l k held).plans = s.plans := by
  unfold State.startDwell
  try dsimp only
  repeat' split
  all_goals simp
@[simp] theorem startDwell_loops (s : State) (c : CoilId) (l : LoopId) (k : Nat) (held : Bool) : (s.startDwell c l k held).loops = s.loops := by
  unfold State.startDwell
  try dsimp only
  repeat' split
  all_goals simp
@[simp] theorem startDwell_units (s : State) (c : CoilId) (l : LoopId) (k : Nat) (held : Bool) : (s.startDwell c l k held).units = s.units := by
  unfold State.startDwell
  try dsimp only
  repeat' split
  all_goals simp
@[simp] theorem startDwell_frost (s : State) (c : CoilId) (l : LoopId) (k : Nat) (held : Bool) : (s.startDwell c l k held).frost = s.frost := by
  unfold State.startDwell
  try dsimp only
  repeat' split
  all_goals simp
@[simp] theorem startDwell_inputs (s : State) (c : CoilId) (l : LoopId) (k : Nat) (held : Bool) : (s.startDwell c l k held).inputs = s.inputs := by
  unfold State.startDwell
  try dsimp only
  repeat' split
  all_goals simp
@[simp] theorem completeAdmission_plans (s : State) (c : CoilId) (l : LoopId) : (s.completeAdmission c l).plans = s.plans := by
  unfold State.completeAdmission
  try dsimp only
  repeat' split
  all_goals simp
@[simp] theorem completeAdmission_frost (s : State) (c : CoilId) (l : LoopId) : (s.completeAdmission c l).frost = s.frost := by
  unfold State.completeAdmission
  try dsimp only
  repeat' split
  all_goals simp
@[simp] theorem completeAdmission_inputs (s : State) (c : CoilId) (l : LoopId) : (s.completeAdmission c l).inputs = s.inputs := by
  unfold State.completeAdmission
  try dsimp only
  repeat' split
  all_goals simp
@[simp] theorem traceAbort_cfg (s : State) (c : CoilId) (cause : String) (k : Option Nat) : (s.traceAbort c cause k).cfg = s.cfg := by
  unfold State.traceAbort
  try dsimp only
  repeat' split
  all_goals simp
@[simp] theorem traceAbort_plans (s : State) (c : CoilId) (cause : String) (k : Option Nat) : (s.traceAbort c cause k).plans = s.plans := by
  unfold State.traceAbort
  try dsimp only
  repeat' split
  all_goals simp
@[simp] theorem traceAbort_loops (s : State) (c : CoilId) (cause : String) (k : Option Nat) : (s.traceAbort c cause k).loops = s.loops := by
  unfold State.traceAbort
  try dsimp only
  repeat' split
  all_goals simp
@[simp] theorem traceAbort_units (s : State) (c : CoilId) (cause : String) (k : Option Nat) : (s.traceAbort c cause k).units = s.units := by
  unfold State.traceAbort
  try dsimp only
  repeat' split
  all_goals simp
@[simp] theorem traceAbort_frost (s : State) (c : CoilId) (cause : String) (k : Option Nat) : (s.traceAbort c cause k).frost = s.frost := by
  unfold State.traceAbort
  try dsimp only
  repeat' split
  all_goals simp
@[simp] theorem traceAbort_inputs (s : State) (c : CoilId) (cause : String) (k : Option Nat) : (s.traceAbort c cause k).inputs = s.inputs := by
  unfold State.traceAbort
  try dsimp only
  repeat' split
  all_goals simp
@[simp] theorem abortAdmission_plans (s : State) (c : CoilId) (l : LoopId) (cause : String) (k : Option Nat) (u : Urgency) : (s.abortAdmission c l cause k u).plans = s.plans := by
  unfold State.abortAdmission
  try dsimp only
  repeat' split
  all_goals simp
@[simp] theorem abortAdmission_frost (s : State) (c : CoilId) (l : LoopId) (cause : String) (k : Option Nat) (u : Urgency) : (s.abortAdmission c l cause k u).frost = s.frost := by
  unfold State.abortAdmission
  try dsimp only
  repeat' split
  all_goals simp
@[simp] theorem abortAdmission_inputs (s : State) (c : CoilId) (l : LoopId) (cause : String) (k : Option Nat) (u : Urgency) : (s.abortAdmission c l cause k u).inputs = s.inputs := by
  unfold State.abortAdmission
  try dsimp only
  repeat' split
  all_goals simp
@[simp] theorem admissionTimedOut_plans (s : State) (c : CoilId) (l : LoopId) : (s.admissionTimedOut c l).plans = s.plans := by
  unfold State.admissionTimedOut
  rw [oneEvent_plans]
  try dsimp only
  repeat' split
  all_goals simp
@[simp] theorem admissionTimedOut_frost (s : State) (c : CoilId) (l : LoopId) : (s.admissionTimedOut c l).frost = s.frost := by
  unfold State.admissionTimedOut
  rw [oneEvent_frost]
  try dsimp only
  repeat' split
  all_goals simp
@[simp] theorem admissionTimedOut_inputs (s : State) (c : CoilId) (l : LoopId) : (s.admissionTimedOut c l).inputs = s.inputs := by
  unfold State.admissionTimedOut
  rw [oneEvent_inputs]
  try dsimp only
  repeat' split
  all_goals simp
@[simp] theorem nextStep_cfg (s : State) (c : CoilId) : (s.nextStep c).cfg = s.cfg := by
  unfold State.nextStep
  try dsimp only
  repeat' split
  all_goals simp
@[simp] theorem nextStep_plans (s : State) (c : CoilId) : (s.nextStep c).plans = s.plans := by
  unfold State.nextStep
  try dsimp only
  repeat' split
  all_goals simp
@[simp] theorem nextStep_loops (s : State) (c : CoilId) : (s.nextStep c).loops = s.loops := by
  unfold State.nextStep
  try dsimp only
  repeat' split
  all_goals simp
@[simp] theorem nextStep_units (s : State) (c : CoilId) : (s.nextStep c).units = s.units := by
  unfold State.nextStep
  try dsimp only
  repeat' split
  all_goals simp
@[simp] theorem nextStep_frost (s : State) (c : CoilId) : (s.nextStep c).frost = s.frost := by
  unfold State.nextStep
  try dsimp only
  repeat' split
  all_goals simp
@[simp] theorem nextStep_inputs (s : State) (c : CoilId) : (s.nextStep c).inputs = s.inputs := by
  unfold State.nextStep
  try dsimp only
  repeat' split
  all_goals simp
@[simp] theorem evalHoldOf_cfg (s : State) (l : LoopId) (c : CoilId) : (s.evalHoldOf l c).cfg = s.cfg := by
  unfold State.evalHoldOf
  try dsimp only
  repeat' split
  all_goals simp
@[simp] theorem evalHoldOf_plans (s : State) (l : LoopId) (c : CoilId) : (s.evalHoldOf l c).plans = s.plans := by
  unfold State.evalHoldOf
  try dsimp only
  repeat' split
  all_goals simp
@[simp] theorem evalHoldOf_loops (s : State) (l : LoopId) (c : CoilId) : (s.evalHoldOf l c).loops = s.loops := by
  unfold State.evalHoldOf
  try dsimp only
  repeat' split
  all_goals simp
@[simp] theorem evalHoldOf_units (s : State) (l : LoopId) (c : CoilId) : (s.evalHoldOf l c).units = s.units := by
  unfold State.evalHoldOf
  try dsimp only
  repeat' split
  all_goals simp
@[simp] theorem evalHoldOf_frost (s : State) (l : LoopId) (c : CoilId) : (s.evalHoldOf l c).frost = s.frost := by
  unfold State.evalHoldOf
  try dsimp only
  repeat' split
  all_goals simp
@[simp] theorem evalHoldOf_inputs (s : State) (l : LoopId) (c : CoilId) : (s.evalHoldOf l c).inputs = s.inputs := by
  unfold State.evalHoldOf
  try dsimp only
  repeat' split
  all_goals simp
@[simp] theorem evalHold_cfg (s : State) (l : LoopId) : (s.evalHold l).cfg = s.cfg := by
  unfold State.evalHold
  try dsimp only
  repeat' split
  all_goals simp
@[simp] theorem evalHold_plans (s : State) (l : LoopId) : (s.evalHold l).plans = s.plans := by
  unfold State.evalHold
  try dsimp only
  repeat' split
  all_goals simp
@[simp] theorem evalHold_loops (s : State) (l : LoopId) : (s.evalHold l).loops = s.loops := by
  unfold State.evalHold
  try dsimp only
  repeat' split
  all_goals simp
@[simp] theorem evalHold_units (s : State) (l : LoopId) : (s.evalHold l).units = s.units := by
  unfold State.evalHold
  try dsimp only
  repeat' split
  all_goals simp
@[simp] theorem evalHold_frost (s : State) (l : LoopId) : (s.evalHold l).frost = s.frost := by
  unfold State.evalHold
  try dsimp only
  repeat' split
  all_goals simp
@[simp] theorem evalHold_inputs (s : State) (l : LoopId) : (s.evalHold l).inputs = s.inputs := by
  unfold State.evalHold
  try dsimp only
  repeat' split
  all_goals simp
@[simp] theorem beginRetire_cfg (s : State) (c : CoilId) (l : LoopId) (outFlag : Bool) : (s.beginRetire c l outFlag).cfg = s.cfg := by
  unfold State.beginRetire
  try dsimp only
  repeat' split
  all_goals simp
@[simp] theorem beginRetire_plans (s : State) (c : CoilId) (l : LoopId) (outFlag : Bool) : (s.beginRetire c l outFlag).plans = s.plans := by
  unfold State.beginRetire
  try dsimp only
  repeat' split
  all_goals simp
@[simp] theorem beginRetire_frost (s : State) (c : CoilId) (l : LoopId) (outFlag : Bool) : (s.beginRetire c l outFlag).frost = s.frost := by
  unfold State.beginRetire
  try dsimp only
  repeat' split
  all_goals simp
@[simp] theorem beginRetire_inputs (s : State) (c : CoilId) (l : LoopId) (outFlag : Bool) : (s.beginRetire c l outFlag).inputs = s.inputs := by
  unfold State.beginRetire
  try dsimp only
  repeat' split
  all_goals simp
@[simp] theorem tellLast_cfg (s : State) (l : LoopId) (leaving : Nat) : (s.tellLast l leaving).cfg = s.cfg := by
  unfold State.tellLast
  try dsimp only
  repeat' split
  all_goals simp
@[simp] theorem tellLast_plans (s : State) (l : LoopId) (leaving : Nat) : (s.tellLast l leaving).plans = s.plans := by
  unfold State.tellLast
  try dsimp only
  repeat' split
  all_goals simp
@[simp] theorem tellLast_units (s : State) (l : LoopId) (leaving : Nat) : (s.tellLast l leaving).units = s.units := by
  unfold State.tellLast
  try dsimp only
  repeat' split
  all_goals simp
@[simp] theorem tellLast_frost (s : State) (l : LoopId) (leaving : Nat) : (s.tellLast l leaving).frost = s.frost := by
  unfold State.tellLast
  try dsimp only
  repeat' split
  all_goals simp
@[simp] theorem tellLast_inputs (s : State) (l : LoopId) (leaving : Nat) : (s.tellLast l leaving).inputs = s.inputs := by
  unfold State.tellLast
  try dsimp only
  repeat' split
  all_goals simp
@[simp] theorem startRetire_cfg (s : State) (c : CoilId) (l : LoopId) (outFlag : Bool) : (s.startRetire c l outFlag).cfg = s.cfg := by
  unfold State.startRetire
  rw [oneEvent_cfg]
  try dsimp only
  repeat' split
  all_goals simp
@[simp] theorem startRetire_plans (s : State) (c : CoilId) (l : LoopId) (outFlag : Bool) : (s.startRetire c l outFlag).plans = s.plans := by
  unfold State.startRetire
  rw [oneEvent_plans]
  try dsimp only
  repeat' split
  all_goals simp
@[simp] theorem startRetire_frost (s : State) (c : CoilId) (l : LoopId) (outFlag : Bool) : (s.startRetire c l outFlag).frost = s.frost := by
  unfold State.startRetire
  rw [oneEvent_frost]
  try dsimp only
  repeat' split
  all_goals simp
@[simp] theorem startRetire_inputs (s : State) (c : CoilId) (l : LoopId) (outFlag : Bool) : (s.startRetire c l outFlag).inputs = s.inputs := by
  unfold State.startRetire
  rw [oneEvent_inputs]
  try dsimp only
  repeat' split
  all_goals simp
@[simp] theorem toClosing_cfg (s : State) (c : CoilId) (outFlag : Bool) : (s.toClosing c outFlag).cfg = s.cfg := by
  unfold State.toClosing
  try dsimp only
  repeat' split
  all_goals simp
@[simp] theorem toClosing_plans (s : State) (c : CoilId) (outFlag : Bool) : (s.toClosing c outFlag).plans = s.plans := by
  unfold State.toClosing
  try dsimp only
  repeat' split
  all_goals simp
@[simp] theorem toClosing_loops (s : State) (c : CoilId) (outFlag : Bool) : (s.toClosing c outFlag).loops = s.loops := by
  unfold State.toClosing
  try dsimp only
  repeat' split
  all_goals simp
@[simp] theorem toClosing_units (s : State) (c : CoilId) (outFlag : Bool) : (s.toClosing c outFlag).units = s.units := by
  unfold State.toClosing
  try dsimp only
  repeat' split
  all_goals simp
@[simp] theorem toClosing_frost (s : State) (c : CoilId) (outFlag : Bool) : (s.toClosing c outFlag).frost = s.frost := by
  unfold State.toClosing
  try dsimp only
  repeat' split
  all_goals simp
@[simp] theorem toClosing_inputs (s : State) (c : CoilId) (outFlag : Bool) : (s.toClosing c outFlag).inputs = s.inputs := by
  unfold State.toClosing
  try dsimp only
  repeat' split
  all_goals simp
@[simp] theorem rundownExpired_cfg (s : State) (c : CoilId) (l : LoopId) : (s.rundownExpired c l).cfg = s.cfg := by
  unfold State.rundownExpired
  try dsimp only
  repeat' split
  all_goals simp
@[simp] theorem rundownExpired_plans (s : State) (c : CoilId) (l : LoopId) : (s.rundownExpired c l).plans = s.plans := by
  unfold State.rundownExpired
  try dsimp only
  repeat' split
  all_goals simp
@[simp] theorem rundownExpired_loops (s : State) (c : CoilId) (l : LoopId) : (s.rundownExpired c l).loops = s.loops := by
  unfold State.rundownExpired
  try dsimp only
  repeat' split
  all_goals simp
@[simp] theorem rundownExpired_units (s : State) (c : CoilId) (l : LoopId) : (s.rundownExpired c l).units = s.units := by
  unfold State.rundownExpired
  try dsimp only
  repeat' split
  all_goals simp
@[simp] theorem rundownExpired_frost (s : State) (c : CoilId) (l : LoopId) : (s.rundownExpired c l).frost = s.frost := by
  unfold State.rundownExpired
  try dsimp only
  repeat' split
  all_goals simp
@[simp] theorem rundownExpired_inputs (s : State) (c : CoilId) (l : LoopId) : (s.rundownExpired c l).inputs = s.inputs := by
  unfold State.rundownExpired
  try dsimp only
  repeat' split
  all_goals simp
@[simp] theorem releaseRundown_cfg (s : State) (c : CoilId) : (s.releaseRundown c).cfg = s.cfg := by
  unfold State.releaseRundown
  try dsimp only
  repeat' split
  all_goals simp
@[simp] theorem releaseRundown_plans (s : State) (c : CoilId) : (s.releaseRundown c).plans = s.plans := by
  unfold State.releaseRundown
  try dsimp only
  repeat' split
  all_goals simp
@[simp] theorem releaseRundown_loops (s : State) (c : CoilId) : (s.releaseRundown c).loops = s.loops := by
  unfold State.releaseRundown
  try dsimp only
  repeat' split
  all_goals simp
@[simp] theorem releaseRundown_units (s : State) (c : CoilId) : (s.releaseRundown c).units = s.units := by
  unfold State.releaseRundown
  try dsimp only
  repeat' split
  all_goals simp
@[simp] theorem releaseRundown_frost (s : State) (c : CoilId) : (s.releaseRundown c).frost = s.frost := by
  unfold State.releaseRundown
  try dsimp only
  repeat' split
  all_goals simp
@[simp] theorem releaseRundown_inputs (s : State) (c : CoilId) : (s.releaseRundown c).inputs = s.inputs := by
  unfold State.releaseRundown
  try dsimp only
  repeat' split
  all_goals simp
@[simp] theorem completeRetire_plans (s : State) (c : CoilId) (l : LoopId) (outFlag : Bool) : (s.completeRetire c l outFlag).plans = s.plans := by
  unfold State.completeRetire
  try dsimp only
  repeat' split
  all_goals simp
@[simp] theorem completeRetire_frost (s : State) (c : CoilId) (l : LoopId) (outFlag : Bool) : (s.completeRetire c l outFlag).frost = s.frost := by
  unfold State.completeRetire
  try dsimp only
  repeat' split
  all_goals simp
@[simp] theorem completeRetire_inputs (s : State) (c : CoilId) (l : LoopId) (outFlag : Bool) : (s.completeRetire c l outFlag).inputs = s.inputs := by
  unfold State.completeRetire
  try dsimp only
  repeat' split
  all_goals simp
@[simp] theorem valveArrived_plans (s : State) (c : CoilId) (v : Int) : (s.valveArrived c v).plans = s.plans := by
  unfold State.valveArrived
  try dsimp only
  repeat' split
  all_goals simp
@[simp] theorem valveArrived_frost (s : State) (c : CoilId) (v : Int) : (s.valveArrived c v).frost = s.frost := by
  unfold State.valveArrived
  try dsimp only
  repeat' split
  all_goals simp
@[simp] theorem valveArrived_inputs (s : State) (c : CoilId) (v : Int) : (s.valveArrived c v).inputs = s.inputs := by
  unfold State.valveArrived
  try dsimp only
  repeat' split
  all_goals simp
@[simp] theorem coilFault_plans (s : State) (c : CoilId) (cause : FaultCause) : (s.coilFault c cause).plans = s.plans := by
  unfold State.coilFault
  rw [oneEvent_plans]
  try dsimp only
  repeat' split
  all_goals simp
@[simp] theorem coilFault_frost (s : State) (c : CoilId) (cause : FaultCause) : (s.coilFault c cause).frost = s.frost := by
  unfold State.coilFault
  rw [oneEvent_frost]
  try dsimp only
  repeat' split
  all_goals simp
@[simp] theorem coilFault_inputs (s : State) (c : CoilId) (cause : FaultCause) : (s.coilFault c cause).inputs = s.inputs := by
  unfold State.coilFault
  rw [oneEvent_inputs]
  try dsimp only
  repeat' split
  all_goals simp
@[simp] theorem strokeExpired_plans (s : State) (c : CoilId) : (s.strokeExpired c).plans = s.plans := by
  unfold State.strokeExpired
  try dsimp only
  repeat' split
  all_goals simp
@[simp] theorem strokeExpired_frost (s : State) (c : CoilId) : (s.strokeExpired c).frost = s.frost := by
  unfold State.strokeExpired
  try dsimp only
  repeat' split
  all_goals simp
@[simp] theorem strokeExpired_inputs (s : State) (c : CoilId) : (s.strokeExpired c).inputs = s.inputs := by
  unfold State.strokeExpired
  try dsimp only
  repeat' split
  all_goals simp
@[simp] theorem frostToCoil_cfg (s : State) (c : CoilId) (f : FrostState) : (s.frostToCoil c f).cfg = s.cfg := by
  unfold State.frostToCoil
  try dsimp only
  repeat' split
  all_goals simp
@[simp] theorem frostToCoil_plans (s : State) (c : CoilId) (f : FrostState) : (s.frostToCoil c f).plans = s.plans := by
  unfold State.frostToCoil
  try dsimp only
  repeat' split
  all_goals simp
@[simp] theorem frostToCoil_loops (s : State) (c : CoilId) (f : FrostState) : (s.frostToCoil c f).loops = s.loops := by
  unfold State.frostToCoil
  try dsimp only
  repeat' split
  all_goals simp
@[simp] theorem frostToCoil_frost (s : State) (c : CoilId) (f : FrostState) : (s.frostToCoil c f).frost = s.frost := by
  unfold State.frostToCoil
  try dsimp only
  repeat' split
  all_goals simp
@[simp] theorem frostToCoil_inputs (s : State) (c : CoilId) (f : FrostState) : (s.frostToCoil c f).inputs = s.inputs := by
  unfold State.frostToCoil
  try dsimp only
  repeat' split
  all_goals simp
@[simp] theorem stopShedding_cfg (s : State) (l : LoopId) (cause : String) (u : Urgency) : (s.stopShedding l cause u).cfg = s.cfg := by
  unfold State.stopShedding
  try dsimp only
  repeat' split
  all_goals simp
@[simp] theorem stopShedding_plans (s : State) (l : LoopId) (cause : String) (u : Urgency) : (s.stopShedding l cause u).plans = s.plans := by
  unfold State.stopShedding
  try dsimp only
  repeat' split
  all_goals simp
@[simp] theorem stopShedding_loops (s : State) (l : LoopId) (cause : String) (u : Urgency) : (s.stopShedding l cause u).loops = s.loops := by
  unfold State.stopShedding
  try dsimp only
  repeat' split
  all_goals simp
@[simp] theorem stopShedding_frost (s : State) (l : LoopId) (cause : String) (u : Urgency) : (s.stopShedding l cause u).frost = s.frost := by
  unfold State.stopShedding
  try dsimp only
  repeat' split
  all_goals simp
@[simp] theorem stopShedding_inputs (s : State) (l : LoopId) (cause : String) (u : Urgency) : (s.stopShedding l cause u).inputs = s.inputs := by
  unfold State.stopShedding
  try dsimp only
  repeat' split
  all_goals simp
@[simp] theorem coilOnFlowloss_plans (s : State) (l : LoopId) (c : CoilId) : (s.coilOnFlowloss l c).plans = s.plans := by
  unfold State.coilOnFlowloss
  try dsimp only
  repeat' split
  all_goals simp
@[simp] theorem coilOnFlowloss_frost (s : State) (l : LoopId) (c : CoilId) : (s.coilOnFlowloss l c).frost = s.frost := by
  unfold State.coilOnFlowloss
  try dsimp only
  repeat' split
  all_goals simp
@[simp] theorem coilOnFlowloss_inputs (s : State) (l : LoopId) (c : CoilId) : (s.coilOnFlowloss l c).inputs = s.inputs := by
  unfold State.coilOnFlowloss
  try dsimp only
  repeat' split
  all_goals simp
@[simp] theorem coilsOnFlowloss_plans (s : State) (l : LoopId) : (s.coilsOnFlowloss l).plans = s.plans := by
  unfold State.coilsOnFlowloss
  try dsimp only
  repeat' split
  all_goals simp
@[simp] theorem coilsOnFlowloss_frost (s : State) (l : LoopId) : (s.coilsOnFlowloss l).frost = s.frost := by
  unfold State.coilsOnFlowloss
  try dsimp only
  repeat' split
  all_goals simp
@[simp] theorem coilsOnFlowloss_inputs (s : State) (l : LoopId) : (s.coilsOnFlowloss l).inputs = s.inputs := by
  unfold State.coilsOnFlowloss
  try dsimp only
  repeat' split
  all_goals simp
@[simp] theorem coilOnRunning_cfg (s : State) (c : CoilId) : (s.coilOnRunning c).cfg = s.cfg := by
  unfold State.coilOnRunning
  try dsimp only
  repeat' split
  all_goals simp
@[simp] theorem coilOnRunning_plans (s : State) (c : CoilId) : (s.coilOnRunning c).plans = s.plans := by
  unfold State.coilOnRunning
  try dsimp only
  repeat' split
  all_goals simp
@[simp] theorem coilOnRunning_loops (s : State) (c : CoilId) : (s.coilOnRunning c).loops = s.loops := by
  unfold State.coilOnRunning
  try dsimp only
  repeat' split
  all_goals simp
@[simp] theorem coilOnRunning_units (s : State) (c : CoilId) : (s.coilOnRunning c).units = s.units := by
  unfold State.coilOnRunning
  try dsimp only
  repeat' split
  all_goals simp
@[simp] theorem coilOnRunning_frost (s : State) (c : CoilId) : (s.coilOnRunning c).frost = s.frost := by
  unfold State.coilOnRunning
  try dsimp only
  repeat' split
  all_goals simp
@[simp] theorem coilOnRunning_inputs (s : State) (c : CoilId) : (s.coilOnRunning c).inputs = s.inputs := by
  unfold State.coilOnRunning
  try dsimp only
  repeat' split
  all_goals simp
@[simp] theorem coilsOnRunning_cfg (s : State) (l : LoopId) : (s.coilsOnRunning l).cfg = s.cfg := by
  unfold State.coilsOnRunning
  rw [oneEvent_cfg]
  try dsimp only
  repeat' split
  all_goals simp
@[simp] theorem coilsOnRunning_plans (s : State) (l : LoopId) : (s.coilsOnRunning l).plans = s.plans := by
  unfold State.coilsOnRunning
  rw [oneEvent_plans]
  try dsimp only
  repeat' split
  all_goals simp
@[simp] theorem coilsOnRunning_loops (s : State) (l : LoopId) : (s.coilsOnRunning l).loops = s.loops := by
  unfold State.coilsOnRunning
  rw [oneEvent_loops]
  try dsimp only
  repeat' split
  all_goals simp
@[simp] theorem coilsOnRunning_frost (s : State) (l : LoopId) : (s.coilsOnRunning l).frost = s.frost := by
  unfold State.coilsOnRunning
  rw [oneEvent_frost]
  try dsimp only
  repeat' split
  all_goals simp
@[simp] theorem coilsOnRunning_inputs (s : State) (l : LoopId) : (s.coilsOnRunning l).inputs = s.inputs := by
  unfold State.coilsOnRunning
  rw [oneEvent_inputs]
  try dsimp only
  repeat' split
  all_goals simp
@[simp] theorem faultIfGone_plans (s : State) (c : CoilId) : (s.faultIfGone c).plans = s.plans := by
  unfold State.faultIfGone
  try dsimp only
  repeat' split
  all_goals simp
@[simp] theorem faultIfGone_frost (s : State) (c : CoilId) : (s.faultIfGone c).frost = s.frost := by
  unfold State.faultIfGone
  try dsimp only
  repeat' split
  all_goals simp
@[simp] theorem faultIfGone_inputs (s : State) (c : CoilId) : (s.faultIfGone c).inputs = s.inputs := by
  unfold State.faultIfGone
  try dsimp only
  repeat' split
  all_goals simp
@[simp] theorem adoptCoil_plans (s : State) (c : CoilId) (l : LoopId) : (s.adoptCoil c l).plans = s.plans := by
  unfold State.adoptCoil
  try dsimp only
  repeat' split
  all_goals simp
@[simp] theorem adoptCoil_frost (s : State) (c : CoilId) (l : LoopId) : (s.adoptCoil c l).frost = s.frost := by
  unfold State.adoptCoil
  try dsimp only
  repeat' split
  all_goals simp
@[simp] theorem adoptCoil_inputs (s : State) (c : CoilId) (l : LoopId) : (s.adoptCoil c l).inputs = s.inputs := by
  unfold State.adoptCoil
  try dsimp only
  repeat' split
  all_goals simp
@[simp] theorem adopt_plans (s : State) (l : LoopId) : (s.adopt l).plans = s.plans := by
  unfold State.adopt
  try dsimp only
  repeat' split
  all_goals simp
@[simp] theorem adopt_frost (s : State) (l : LoopId) : (s.adopt l).frost = s.frost := by
  unfold State.adopt
  try dsimp only
  repeat' split
  all_goals simp
@[simp] theorem adopt_inputs (s : State) (l : LoopId) : (s.adopt l).inputs = s.inputs := by
  unfold State.adopt
  try dsimp only
  repeat' split
  all_goals simp
@[simp] theorem parkCoil_cfg (s : State) (c : CoilId) : (s.parkCoil c).cfg = s.cfg := by
  unfold State.parkCoil
  try dsimp only
  repeat' split
  all_goals simp
@[simp] theorem parkCoil_plans (s : State) (c : CoilId) : (s.parkCoil c).plans = s.plans := by
  unfold State.parkCoil
  try dsimp only
  repeat' split
  all_goals simp
@[simp] theorem parkCoil_loops (s : State) (c : CoilId) : (s.parkCoil c).loops = s.loops := by
  unfold State.parkCoil
  try dsimp only
  repeat' split
  all_goals simp
@[simp] theorem parkCoil_units (s : State) (c : CoilId) : (s.parkCoil c).units = s.units := by
  unfold State.parkCoil
  try dsimp only
  repeat' split
  all_goals simp
@[simp] theorem parkCoil_frost (s : State) (c : CoilId) : (s.parkCoil c).frost = s.frost := by
  unfold State.parkCoil
  try dsimp only
  repeat' split
  all_goals simp
@[simp] theorem parkCoil_inputs (s : State) (c : CoilId) : (s.parkCoil c).inputs = s.inputs := by
  unfold State.parkCoil
  try dsimp only
  repeat' split
  all_goals simp
@[simp] theorem serveLoopSince_cfg (s s1 : State) (l : LoopId) : (s.serveLoopSince s1 l).cfg = s.cfg := by
  unfold State.serveLoopSince
  try dsimp only
  repeat' split
  all_goals simp
@[simp] theorem serveLoopSince_plans (s s1 : State) (l : LoopId) : (s.serveLoopSince s1 l).plans = s.plans := by
  unfold State.serveLoopSince
  try dsimp only
  repeat' split
  all_goals simp
@[simp] theorem serveLoopSince_loops (s s1 : State) (l : LoopId) : (s.serveLoopSince s1 l).loops = s.loops := by
  unfold State.serveLoopSince
  try dsimp only
  repeat' split
  all_goals simp
@[simp] theorem serveLoopSince_frost (s s1 : State) (l : LoopId) : (s.serveLoopSince s1 l).frost = s.frost := by
  unfold State.serveLoopSince
  try dsimp only
  repeat' split
  all_goals simp
@[simp] theorem serveLoopSince_inputs (s s1 : State) (l : LoopId) : (s.serveLoopSince s1 l).inputs = s.inputs := by
  unfold State.serveLoopSince
  try dsimp only
  repeat' split
  all_goals simp
@[simp] theorem servedSince_cfg (s : State) (s1 : State) : (s.servedSince s1).cfg = s.cfg := by
  unfold State.servedSince
  try dsimp only
  repeat' split
  all_goals simp
@[simp] theorem servedSince_plans (s : State) (s1 : State) : (s.servedSince s1).plans = s.plans := by
  unfold State.servedSince
  try dsimp only
  repeat' split
  all_goals simp
@[simp] theorem servedSince_loops (s : State) (s1 : State) : (s.servedSince s1).loops = s.loops := by
  unfold State.servedSince
  try dsimp only
  repeat' split
  all_goals simp
@[simp] theorem servedSince_frost (s : State) (s1 : State) : (s.servedSince s1).frost = s.frost := by
  unfold State.servedSince
  try dsimp only
  repeat' split
  all_goals simp
@[simp] theorem servedSince_inputs (s : State) (s1 : State) : (s.servedSince s1).inputs = s.inputs := by
  unfold State.servedSince
  try dsimp only
  repeat' split
  all_goals simp
theorem wholeRequest_cfg (s : State) (f : State → State) : (s.wholeRequest f).cfg = (f s).cfg := by
  unfold State.wholeRequest
  rw [oneEvent_cfg, servedSince_cfg]
theorem wholeRequest_plans (s : State) (f : State → State) : (s.wholeRequest f).plans = (f s).plans := by
  unfold State.wholeRequest
  rw [oneEvent_plans, servedSince_plans]
theorem wholeRequest_loops (s : State) (f : State → State) : (s.wholeRequest f).loops = (f s).loops := by
  unfold State.wholeRequest
  rw [oneEvent_loops, servedSince_loops]
theorem wholeRequest_frost (s : State) (f : State → State) : (s.wholeRequest f).frost = (f s).frost := by
  unfold State.wholeRequest
  rw [oneEvent_frost, servedSince_frost]
theorem wholeRequest_inputs (s : State) (f : State → State) : (s.wholeRequest f).inputs = (f s).inputs := by
  unfold State.wholeRequest
  rw [oneEvent_inputs, servedSince_inputs]
@[simp] theorem outAtOnce_cfg (s : State) (c : CoilId) (l : LoopId) (close : Bool) : (s.outAtOnce c l close).cfg = s.cfg := by
  unfold State.outAtOnce
  try dsimp only
  repeat' split
  all_goals simp
@[simp] theorem outAtOnce_plans (s : State) (c : CoilId) (l : LoopId) (close : Bool) : (s.outAtOnce c l close).plans = s.plans := by
  unfold State.outAtOnce
  try dsimp only
  repeat' split
  all_goals simp
@[simp] theorem outAtOnce_loops (s : State) (c : CoilId) (l : LoopId) (close : Bool) : (s.outAtOnce c l close).loops = s.loops := by
  unfold State.outAtOnce
  try dsimp only
  repeat' split
  all_goals simp
@[simp] theorem outAtOnce_frost (s : State) (c : CoilId) (l : LoopId) (close : Bool) : (s.outAtOnce c l close).frost = s.frost := by
  unfold State.outAtOnce
  try dsimp only
  repeat' split
  all_goals simp
@[simp] theorem outAtOnce_inputs (s : State) (c : CoilId) (l : LoopId) (close : Bool) : (s.outAtOnce c l close).inputs = s.inputs := by
  unfold State.outAtOnce
  try dsimp only
  repeat' split
  all_goals simp
@[simp] theorem abortIntoOut_plans (s : State) (c : CoilId) (l : LoopId) : (s.abortIntoOut c l).plans = s.plans := by
  unfold State.abortIntoOut
  try dsimp only
  repeat' split
  all_goals simp
@[simp] theorem abortIntoOut_frost (s : State) (c : CoilId) (l : LoopId) : (s.abortIntoOut c l).frost = s.frost := by
  unfold State.abortIntoOut
  try dsimp only
  repeat' split
  all_goals simp
@[simp] theorem abortIntoOut_inputs (s : State) (c : CoilId) (l : LoopId) : (s.abortIntoOut c l).inputs = s.inputs := by
  unfold State.abortIntoOut
  try dsimp only
  repeat' split
  all_goals simp
@[simp] theorem coilOut_plans (s : State) (c : CoilId) (l : LoopId) : (s.coilOut c l).plans = s.plans := by
  unfold State.coilOut
  try dsimp only
  repeat' split
  all_goals simp
@[simp] theorem coilOut_frost (s : State) (c : CoilId) (l : LoopId) : (s.coilOut c l).frost = s.frost := by
  unfold State.coilOut
  try dsimp only
  repeat' split
  all_goals simp
@[simp] theorem coilOut_inputs (s : State) (c : CoilId) (l : LoopId) : (s.coilOut c l).inputs = s.inputs := by
  unfold State.coilOut
  try dsimp only
  repeat' split
  all_goals simp
@[simp] theorem resendFan_cfg (s : State) (c : CoilId) : (s.resendFan c).cfg = s.cfg := by
  unfold State.resendFan
  try dsimp only
  repeat' split
  all_goals simp
@[simp] theorem resendFan_plans (s : State) (c : CoilId) : (s.resendFan c).plans = s.plans := by
  unfold State.resendFan
  try dsimp only
  repeat' split
  all_goals simp
@[simp] theorem resendFan_loops (s : State) (c : CoilId) : (s.resendFan c).loops = s.loops := by
  unfold State.resendFan
  try dsimp only
  repeat' split
  all_goals simp
@[simp] theorem resendFan_units (s : State) (c : CoilId) : (s.resendFan c).units = s.units := by
  unfold State.resendFan
  try dsimp only
  repeat' split
  all_goals simp
@[simp] theorem resendFan_frost (s : State) (c : CoilId) : (s.resendFan c).frost = s.frost := by
  unfold State.resendFan
  try dsimp only
  repeat' split
  all_goals simp
@[simp] theorem resendFan_inputs (s : State) (c : CoilId) : (s.resendFan c).inputs = s.inputs := by
  unfold State.resendFan
  try dsimp only
  repeat' split
  all_goals simp
@[simp] theorem resendValve_cfg (s : State) (c : CoilId) : (s.resendValve c).cfg = s.cfg := by
  unfold State.resendValve
  try dsimp only
  repeat' split
  all_goals simp
@[simp] theorem resendValve_plans (s : State) (c : CoilId) : (s.resendValve c).plans = s.plans := by
  unfold State.resendValve
  try dsimp only
  repeat' split
  all_goals simp
@[simp] theorem resendValve_loops (s : State) (c : CoilId) : (s.resendValve c).loops = s.loops := by
  unfold State.resendValve
  try dsimp only
  repeat' split
  all_goals simp
@[simp] theorem resendValve_units (s : State) (c : CoilId) : (s.resendValve c).units = s.units := by
  unfold State.resendValve
  try dsimp only
  repeat' split
  all_goals simp
@[simp] theorem resendValve_frost (s : State) (c : CoilId) : (s.resendValve c).frost = s.frost := by
  unfold State.resendValve
  try dsimp only
  repeat' split
  all_goals simp
@[simp] theorem resendValve_inputs (s : State) (c : CoilId) : (s.resendValve c).inputs = s.inputs := by
  unfold State.resendValve
  try dsimp only
  repeat' split
  all_goals simp
@[simp] theorem coilIn_plans (s : State) (c : CoilId) (l : LoopId) : (s.coilIn c l).plans = s.plans := by
  unfold State.coilIn
  try dsimp only
  repeat' split
  all_goals simp
@[simp] theorem coilIn_loops (s : State) (c : CoilId) (l : LoopId) : (s.coilIn c l).loops = s.loops := by
  unfold State.coilIn
  try dsimp only
  repeat' split
  all_goals simp
@[simp] theorem coilIn_frost (s : State) (c : CoilId) (l : LoopId) : (s.coilIn c l).frost = s.frost := by
  unfold State.coilIn
  try dsimp only
  repeat' split
  all_goals simp
@[simp] theorem coilIn_inputs (s : State) (c : CoilId) (l : LoopId) : (s.coilIn c l).inputs = s.inputs := by
  unfold State.coilIn
  try dsimp only
  repeat' split
  all_goals simp
@[simp] theorem coilCleared_cfg (s : State) (c : CoilId) : (s.coilCleared c).cfg = s.cfg := by
  unfold State.coilCleared
  try dsimp only
  repeat' split
  all_goals simp
@[simp] theorem coilCleared_plans (s : State) (c : CoilId) : (s.coilCleared c).plans = s.plans := by
  unfold State.coilCleared
  try dsimp only
  repeat' split
  all_goals simp
@[simp] theorem coilCleared_loops (s : State) (c : CoilId) : (s.coilCleared c).loops = s.loops := by
  unfold State.coilCleared
  try dsimp only
  repeat' split
  all_goals simp
@[simp] theorem coilCleared_units (s : State) (c : CoilId) : (s.coilCleared c).units = s.units := by
  unfold State.coilCleared
  try dsimp only
  repeat' split
  all_goals simp
@[simp] theorem coilCleared_frost (s : State) (c : CoilId) : (s.coilCleared c).frost = s.frost := by
  unfold State.coilCleared
  try dsimp only
  repeat' split
  all_goals simp
@[simp] theorem coilCleared_inputs (s : State) (c : CoilId) : (s.coilCleared c).inputs = s.inputs := by
  unfold State.coilCleared
  try dsimp only
  repeat' split
  all_goals simp
@[simp] theorem keepwarmChanged_cfg (s : State) (c : CoilId) (l : LoopId) : (s.keepwarmChanged c l).cfg = s.cfg := by
  unfold State.keepwarmChanged
  try dsimp only
  repeat' split
  all_goals simp
@[simp] theorem keepwarmChanged_plans (s : State) (c : CoilId) (l : LoopId) : (s.keepwarmChanged c l).plans = s.plans := by
  unfold State.keepwarmChanged
  try dsimp only
  repeat' split
  all_goals simp
@[simp] theorem keepwarmChanged_loops (s : State) (c : CoilId) (l : LoopId) : (s.keepwarmChanged c l).loops = s.loops := by
  unfold State.keepwarmChanged
  try dsimp only
  repeat' split
  all_goals simp
@[simp] theorem keepwarmChanged_frost (s : State) (c : CoilId) (l : LoopId) : (s.keepwarmChanged c l).frost = s.frost := by
  unfold State.keepwarmChanged
  try dsimp only
  repeat' split
  all_goals simp
@[simp] theorem keepwarmChanged_inputs (s : State) (c : CoilId) (l : LoopId) : (s.keepwarmChanged c l).inputs = s.inputs := by
  unfold State.keepwarmChanged
  try dsimp only
  repeat' split
  all_goals simp
@[simp] theorem putOptions_plans (s : State) (c : CoilId) (o : CoilOptions) : (s.putOptions c o).plans = s.plans := by
  unfold State.putOptions
  try dsimp only
  repeat' split
  all_goals simp
@[simp] theorem putOptions_loops (s : State) (c : CoilId) (o : CoilOptions) : (s.putOptions c o).loops = s.loops := by
  unfold State.putOptions
  try dsimp only
  repeat' split
  all_goals simp
@[simp] theorem putOptions_frost (s : State) (c : CoilId) (o : CoilOptions) : (s.putOptions c o).frost = s.frost := by
  unfold State.putOptions
  try dsimp only
  repeat' split
  all_goals simp
@[simp] theorem putOptions_inputs (s : State) (c : CoilId) (o : CoilOptions) : (s.putOptions c o).inputs = s.inputs := by
  unfold State.putOptions
  try dsimp only
  repeat' split
  all_goals simp
@[simp] theorem setOptions_plans (s : State) (c : CoilId) (o : CoilOptions) : (s.setOptions c o).plans = s.plans := by
  unfold State.setOptions
  rw [wholeRequest_plans, putOptions_plans]
@[simp] theorem setOptions_loops (s : State) (c : CoilId) (o : CoilOptions) : (s.setOptions c o).loops = s.loops := by
  unfold State.setOptions
  rw [wholeRequest_loops, putOptions_loops]
@[simp] theorem setOptions_frost (s : State) (c : CoilId) (o : CoilOptions) : (s.setOptions c o).frost = s.frost := by
  unfold State.setOptions
  rw [wholeRequest_frost, putOptions_frost]
@[simp] theorem setOptions_inputs (s : State) (c : CoilId) (o : CoilOptions) : (s.setOptions c o).inputs = s.inputs := by
  unfold State.setOptions
  rw [wholeRequest_inputs, putOptions_inputs]
@[simp] theorem coilLost_plans (s : State) (c : CoilId) (fan : Bool) : (s.coilLost c fan).plans = s.plans := by
  unfold State.coilLost
  try dsimp only
  repeat' split
  all_goals simp
@[simp] theorem coilLost_frost (s : State) (c : CoilId) (fan : Bool) : (s.coilLost c fan).frost = s.frost := by
  unfold State.coilLost
  try dsimp only
  repeat' split
  all_goals simp
@[simp] theorem coilLost_inputs (s : State) (c : CoilId) (fan : Bool) : (s.coilLost c fan).inputs = s.inputs := by
  unfold State.coilLost
  try dsimp only
  repeat' split
  all_goals simp
@[simp] theorem coilNodeChanged_plans (s : State) (c : CoilId) (n : NodeId) : (s.coilNodeChanged c n).plans = s.plans := by
  unfold State.coilNodeChanged
  try dsimp only
  repeat' split
  all_goals simp
@[simp] theorem coilNodeChanged_frost (s : State) (c : CoilId) (n : NodeId) : (s.coilNodeChanged c n).frost = s.frost := by
  unfold State.coilNodeChanged
  try dsimp only
  repeat' split
  all_goals simp
@[simp] theorem coilNodeChanged_inputs (s : State) (c : CoilId) (n : NodeId) : (s.coilNodeChanged c n).inputs = s.inputs := by
  unfold State.coilNodeChanged
  try dsimp only
  repeat' split
  all_goals simp
@[simp] theorem coilStatusArrived_plans (s : State) (c : CoilId) (n : NodeId) (v : Int) : (s.coilStatusArrived c n v).plans = s.plans := by
  unfold State.coilStatusArrived
  try dsimp only
  repeat' split
  all_goals simp
@[simp] theorem coilStatusArrived_frost (s : State) (c : CoilId) (n : NodeId) (v : Int) : (s.coilStatusArrived c n v).frost = s.frost := by
  unfold State.coilStatusArrived
  try dsimp only
  repeat' split
  all_goals simp
@[simp] theorem coilStatusArrived_inputs (s : State) (c : CoilId) (n : NodeId) (v : Int) : (s.coilStatusArrived c n v).inputs = s.inputs := by
  unfold State.coilStatusArrived
  try dsimp only
  repeat' split
  all_goals simp
@[simp] theorem icingArrived_cfg (s : State) (c : CoilId) (v : Int) : (s.icingArrived c v).cfg = s.cfg := by
  unfold State.icingArrived
  try dsimp only
  repeat' split
  all_goals simp
@[simp] theorem icingArrived_plans (s : State) (c : CoilId) (v : Int) : (s.icingArrived c v).plans = s.plans := by
  unfold State.icingArrived
  try dsimp only
  repeat' split
  all_goals simp
@[simp] theorem icingArrived_loops (s : State) (c : CoilId) (v : Int) : (s.icingArrived c v).loops = s.loops := by
  unfold State.icingArrived
  try dsimp only
  repeat' split
  all_goals simp
@[simp] theorem icingArrived_frost (s : State) (c : CoilId) (v : Int) : (s.icingArrived c v).frost = s.frost := by
  unfold State.icingArrived
  try dsimp only
  repeat' split
  all_goals simp
@[simp] theorem icingArrived_inputs (s : State) (c : CoilId) (v : Int) : (s.icingArrived c v).inputs = s.inputs := by
  unfold State.icingArrived
  try dsimp only
  repeat' split
  all_goals simp

end Sys2Proof.Machine
end

