-- ==== Sys2Proof/Laws/Requests.lean ====
section
/-! SUPPORT. How a request's answer follows from what its owning block makes of it: taken at once, busy, or lost (R187, R188); and when
the second and third pass of a write request stop it (R1, R2). -/

namespace Sys2Proof.Machine

theorem place_eq_answered (s : State) (name : String) (st : Status) (keys : List Field) :
    s.place (.reply name st keys none) = s.answered name st keys := rfl

theorem place_eq_listed (s : State) (name : String) (keys : List Field) (lines : List (List Field)) :
    s.place (.reply name .ok keys (some lines)) = s.listed name keys lines := rfl

@[simp] theorem place_lost (s : State) (p : Placement) : (s.place p).bus.lost = s.bus.lost := rfl

theorem takeRequest_free {s : State} (h : LinkFree s) (name : String) (body : State → ReqResult) :
    takeRequest name body s =
      match body s with
      | .refuse r => s.place (r.placement name)
      | .done s' r => s'.place (r.placement name)
      | .deferred s' => s' := by
  unfold takeRequest
  rw [h.reset, h.reply, h.slot]
  rfl

/-- A request its block refuses: the reply, and nothing else. -/
theorem request_refuse {s : State} (h : Ready s) {name : String} {body : State → ReqResult} {r : Reply}
    (hb : body s = .refuse r) : request name body s = .next (s.place (r.placement name)) := by
  unfold request
  rw [takeRequest_free h.toLinkFree, hb]
  exact happen_of_none h.lost

/-- A request its block performs without a report of a lost command. -/
theorem request_done {s s' : State} (h : Ready s) {name : String} {body : State → ReqResult} {r : Reply}
    (hb : body s = .done s' r) (hl : s'.bus.lost = []) : request name body s = .next (s'.place (r.placement name)) := by
  unfold request
  rw [takeRequest_free h.toLinkFree, hb]
  exact happen_of_none hl

/-- A request its block performs, whatever reports it causes. -/
theorem request_done_lost {s s' : State} (h : Ready s) {name : String} {body : State → ReqResult} {r : Reply}
    (hb : body s = .done s' r) : request name body s = .next (s'.place (r.placement name)).deliverLost := by
  unfold request
  rw [takeRequest_free h.toLinkFree, hb]
  rfl

/-- A request whose reply is deferred. -/
theorem request_deferred {s s' : State} (h : Ready s) {name : String} {body : State → ReqResult}
    (hb : body s = .deferred s') (hl : s'.bus.lost = []) : request name body s = .next s' := by
  unfold request
  rw [takeRequest_free h.toLinkFree, hb]
  exact happen_of_none hl

/-! ## The passes of a write request (R1, R2) -/

theorem tierFault_none_iff {α : Type} (s : State) (cols : List (Col α)) (args : List Arg) :
    s.tierFault cols args = none ↔ s.inputs.svc.debounced = false ∨ ∀ b ∈ args, tierOf cols b = .operate := by
  unfold State.tierFault State.svcActive
  cases s.inputs.svc.debounced <;> simp

theorem modeFault_none_iff {α : Type} (s : State) (cols : List (Col α)) (args : List Arg) :
    s.modeFault cols args = none ↔ s.mode = .commission ∨ ∀ b ∈ args, tierOf cols b ≠ .binding := by
  unfold State.modeFault
  by_cases h : s.mode = .commission <;> simp [h]

theorem mayWrite_iff {α : Type} (s : State) (cols : List (Col α)) (args : List Arg) :
    s.mayWrite cols args ↔ s.tierFault cols args = none ∧ s.modeFault cols args = none := by
  rw [tierFault_none_iff, modeFault_none_iff]

theorem stateFault_none_iff {bad : String → Bool} {refuses : String → Prop} (h : ∀ k, bad k = true ↔ refuses k) (args : List Arg) :
    stateFault bad args = none ↔ ∀ b ∈ args, ¬ refuses b.key := by
  simp [stateFault, ← h]

theorem stateFault_some_iff {bad : String → Bool} {refuses : String → Prop} (h : ∀ k, bad k = true ↔ refuses k) (args : List Arg)
    (k : String) : stateFault bad args = some k ↔ firstRefused refuses args k := by
  simp only [stateFault, firstRefused, Option.map_eq_some_iff, List.find?_eq_some_iff_append, ← h]
  constructor
  · rintro ⟨a, ⟨ha, before, after, e, hb⟩, rfl⟩
    exact ⟨before, a, after, e, fun b m => by simpa using hb b m, ha, rfl⟩
  · rintro ⟨before, a, after, e, hb, ha, rfl⟩
    exact ⟨a, ⟨ha, before, after, e, fun b m => by simpa using hb b m⟩, rfl⟩

theorem pointSound_iff (g : Settings) (pt : Option PointRef) :
    Settings.pointSound g pt = true ↔ ∀ q, pt = some q → servesPoint g q := by
  cases pt <;> simp [Settings.pointSound, servesPoint]

theorem mem_allOwners (o : Owner) : o ∈ allOwners := by
  rcases o with c | c | ⟨l, _ | _⟩ | l <;> simp [allOwners, allLoops, allCoils]

theorem allOwners_nodup : allOwners.Nodup := by decide +kernel

theorem timesBound_le_one_iff (g : Settings) (n : NodeId) : Settings.timesBound g n ≤ 1 ↔
    ∀ o o' : Owner, Settings.boundNode g o = some n → Settings.boundNode g o' = some n → o = o' := by
  unfold Settings.timesBound
  have hn := allOwners_nodup.filter fun o => decide (Settings.boundNode g o = some n)
  constructor
  · intro h o o' ho ho'
    have m : ∀ x, Settings.boundNode g x = some n → x ∈ allOwners.filter fun o => decide (Settings.boundNode g o = some n) := fun x hx =>
      List.mem_filter.2 ⟨mem_allOwners x, by simpa using hx⟩
    have a := m o ho
    have b := m o' ho'
    match hl : allOwners.filter fun o => decide (Settings.boundNode g o = some n) with
    | [] => rw [hl] at a; simp at a
    | [x] => rw [hl] at a b; simp at a b; rw [a, b]
    | x :: y :: rest => rw [hl] at h; simp at h
  · intro h
    match hl : allOwners.filter fun o => decide (Settings.boundNode g o = some n) with
    | [] => simp
    | [x] => simp
    | x :: y :: rest =>
      exfalso
      have m : ∀ z ∈ x :: y :: rest, Settings.boundNode g z = some n := fun z hz => by
        rw [← hl] at hz
        simpa using (List.mem_filter.1 hz).2
      rw [hl] at hn
      have e := h x y (m x (by simp)) (m y (by simp))
      subst e
      simp at hn

theorem timesBound_pos_iff (g : Settings) (n : NodeId) : 0 < Settings.timesBound g n ↔ ∃ o, Settings.boundNode g o = some n := by
  unfold Settings.timesBound
  rw [List.length_pos_iff_exists_mem]
  simp [mem_allOwners]

theorem outputSound_iff (g : Settings) (role : NodeRole) (n : Option NodeId) :
    Settings.outputSound g role n = true ↔ ∀ k, n = some k → servesOutput g role k := by
  cases n with
  | none => simp [Settings.outputSound]
  | some k => simp [Settings.outputSound, servesOutput, timesBound_le_one_iff]

theorem outputUnsound_iff (g : Settings) (role : NodeRole) (n : Option NodeId) :
    (!Settings.outputSound g role n) = true ↔ ∃ k, n = some k ∧ ¬ servesOutput g role k := by
  rw [Bool.not_eq_true', ← Bool.not_eq_true, outputSound_iff]
  simp

theorem pointUnsound_iff (g : Settings) (pt : Option PointRef) :
    (!Settings.pointSound g pt) = true ↔ ∃ q, pt = some q ∧ ¬ servesPoint g q := by
  rw [Bool.not_eq_true', ← Bool.not_eq_true, pointSound_iff]
  simp

theorem siteSetBad_iff (s : State) (r : SiteRec) (k : String) :
    (k = "outdoor_pt" && !Settings.pointSound s.cfg r.outdoorPt) = true ↔ s.siteRefuses r k := by
  rw [Bool.and_eq_true, Bool.not_eq_true', ← Bool.not_eq_true, pointSound_iff]
  simp [State.siteRefuses]

theorem nodeSetBad_iff (s : State) (n : NodeId) (r : NodeRec) (k : String) :
    s.nodeSetBad n r k = true ↔ s.nodeRefuses n r k := by
  unfold State.nodeSetBad State.nodeRefuses
  dsimp only
  by_cases h1 : k = "role"
  · subst h1
    simp [timesBound_pos_iff]
  · by_cases h2 : k = "channels"
    · subst h2
      simp
    · simp [h1, h2]

theorem loopCoils_ne_nil_iff (s : State) (l : LoopId) : ¬ s.loopCoils l = [] ↔ ∃ c : CoilId, (s.cfg.coils[c]).loop = some l := by
  rw [← ne_eq, ← List.length_pos_iff, List.length_pos_iff_exists_mem]
  exact ⟨fun ⟨c, h⟩ => ⟨c, of_decide_eq_true (List.mem_filter.1 h).2⟩,
    fun ⟨c, h⟩ => ⟨c, List.mem_filter.2 ⟨List.mem_finRange c, decide_eq_true h⟩⟩⟩

theorem loopSetBad_iff (s : State) (l : LoopId) (r : LoopRec) (k : String) :
    s.loopSetBad l r k = true ↔ s.loopRefuses l r k := by
  unfold State.loopSetBad State.loopRefuses
  dsimp only
  by_cases h1 : k = "pump_a"
  · subst h1; simpa [Settings.withLoop] using outputUnsound_iff (Settings.withLoop s.cfg _ r) _ _
  by_cases h2 : k = "pump_b"
  · subst h2; simpa [Settings.withLoop] using outputUnsound_iff (Settings.withLoop s.cfg _ r) _ _
  by_cases h3 : k = "bypass"
  · subst h3; simpa [Settings.withLoop] using outputUnsound_iff (Settings.withLoop s.cfg _ r) _ _
  by_cases h4 : k = "supply_pt"
  · subst h4; simpa [Settings.withLoop] using pointUnsound_iff (Settings.withLoop s.cfg _ r) _
  by_cases h5 : k = "return_pt"
  · subst h5; simpa [Settings.withLoop] using pointUnsound_iff (Settings.withLoop s.cfg _ r) _
  by_cases h6 : k = "flow_src"
  · subst h6
    cases hf : r.flowSrc with
    | none => simp
    | some f => cases f with
      | pulse p => simp
      | point q => simpa [Settings.withLoop] using pointUnsound_iff (Settings.withLoop s.cfg _ r) (some q)
  by_cases h7 : k = "in_use"
  · subst h7
    simpa using fun _ => loopCoils_ne_nil_iff s l
  by_cases h8 : k = "kw_concurrency"
  · subst h8; simp
  simp [h1, h2, h3, h4, h5, h6, h7, h8]

theorem coilSetBad_iff (s : State) (c : CoilId) (r : CoilRec) (k : String) :
    s.coilSetBad c r k = true ↔ s.coilRefuses c r k := by
  unfold State.coilSetBad State.coilRefuses
  dsimp only
  by_cases h1 : k = "loop"
  · subst h1
    cases hl : r.loop <;> simp
  by_cases h2 : k = "fan_node"
  · subst h2; simpa [Settings.withCoil] using outputUnsound_iff (Settings.withCoil s.cfg _ r) _ _
  by_cases h3 : k = "valve_node"
  · subst h3; simpa [Settings.withCoil] using outputUnsound_iff (Settings.withCoil s.cfg _ r) _ _
  by_cases h4 : k = "outlet_pt"
  · subst h4; simpa [Settings.withCoil] using pointUnsound_iff (Settings.withCoil s.cfg _ r) _
  by_cases h5 : k = "icing_pt"
  · subst h5; simpa [Settings.withCoil] using pointUnsound_iff (Settings.withCoil s.cfg _ r) _
  simp [h1, h2, h3, h4, h5]

theorem chanSetBad_iff (s : State) (p : ChanId) (r : ChanRec) (k : String) :
    (k = "mode" && s.isOutdoorChan p && r.mode ≠ .width) = true ↔ s.chanRefuses p r k := by
  simp [State.chanRefuses, State.isOutdoorChan, and_assoc]

end Sys2Proof.Machine
end

