-- ==== Sys2Proof/WellFormed.lean ====
section
/-! DEFINITION. Which commands are of a shape the part's surroundings can produce: a request's tokens fit one line, a bad line fails its
check, an unknown name is unknown, a reply has bytes. exec gives every command a meaning, well-formed or not. -/

namespace Sys2Proof

open Sys2Proof.Machine

/-- A character that may stand in a token: printable, no space, and not the mark of the check part (R184, R185). -/
def tokenChar (c : Char) : Bool := 33 ≤ c.toNat && c.toNat ≤ 126 && c != '#'

/-- A pair a request line can hold (R186): a key without `=`, characters of tokens, and not an empty token. -/
def Arg.wf (a : Arg) : Bool :=
  a.key.toList.all (fun c => tokenChar c && c != '=') &&
    (match a.val with
     | some v => v.toList.all tokenChar
     | none => !a.key.toList.isEmpty)

/-- The characters a pair takes on the line. -/
def Arg.length (a : Arg) : Nat :=
  match a.val with
  | some v => a.key.length + 1 + v.length
  | none => a.key.length

/-- The characters of the content part: `?`, the name, and a space before each pair. -/
def requestLength (name : String) (args : List Arg) : Nat := 1 + name.length + (args.map fun a => 1 + a.length).sum

/-- A request that one line can carry (R184, R186). -/
def requestWf (name : String) (args : List Arg) : Bool := args.all Arg.wf && requestLength name args ≤ Config.lineMax

/-- A request with the pair that selects the row written first. -/
def splitWf (name key value : String) (args : List Arg) : Bool := requestWf name (⟨key, some value⟩ :: args)

/-- A line a receiver can hold complete: no LF or CR at its ends' places, and within the lengths of R184. -/
def lineWf (line : List HostChar) : Bool :=
  !line.isEmpty && line.all (fun c => !HostChar.isLF c) &&
    (let content := (lineContent line).length
     content ≤ Config.lineMax && line.length ≤ content + 4)

/-- The commands the surroundings can produce. -/
def Instr.wf : Instr → Bool
  | .powerOn _ => true
  | .coldStart => true
  | .warmReset => true
  | .erase => true
  | .hostCharReceived _ => true
  | .hostGapTimeout => true
  | .badLine line => lineWf line && (lineFault line).isSome
  | .nameUnknown name args =>
    !knownName name && !name.toList.isEmpty && name.toList.all tokenChar && requestWf name args
  | .answerLineSent => true
  | .noticeLine => true
  | .siteGet a => requestWf "SITE_GET" a
  | .nodeGet a => requestWf "NODE_GET" a
  | .loopGet a => requestWf "LOOP_GET" a
  | .coilGet a => requestWf "COIL_GET" a
  | .siteSet a => requestWf "SITE_SET" a
  | .nodeSet a => requestWf "NODE_SET" a
  | .loopSet a => requestWf "LOOP_SET" a
  | .coilSet a => requestWf "COIL_SET" a
  | .modeSetRun a => splitWf "MODE_SET" "mode" "RUN" a
  | .modeSetCommission a => splitWf "MODE_SET" "mode" "COMMISSION" a
  | .identitySet a => requestWf "IDENTITY_SET" a
  | .storeSave a => requestWf "STORE_SAVE" a
  | .saveComplete _ _ => true
  | .resetWarm a => splitWf "RESET" "kind" "WARM" a
  | .resetCold a => splitWf "RESET" "kind" "COLD" a
  | .resetErase a => splitWf "RESET" "kind" "ERASE" a
  | .planPut a => requestWf "PLAN_PUT" a
  | .planGet a => requestWf "PLAN_GET" a
  | .planCommit a => requestWf "PLAN_COMMIT" a
  | .planRun a => requestWf "PLAN_RUN" a
  | .planPause a => requestWf "PLAN_PAUSE" a
  | .planSkip a => requestWf "PLAN_SKIP" a
  | .planClear a => requestWf "PLAN_CLEAR" a
  | .planState a => requestWf "PLAN_STATE" a
  | .segmentEnd _ => true
  | .pumpSwap a => requestWf "PUMP_SWAP" a
  | .pumpClear a => requestWf "PUMP_CLEAR" a
  | .loopState a => requestWf "LOOP_STATE" a
  | .loopTick _ => true
  | .proofTimeout _ => true
  | .flowlossEnd _ => true
  | .lowflowExpiry _ => true
  | .holdoffExpiry _ => true
  | .rosterGet a => requestWf "ROSTER_GET" a
  | .rosterOrder a => requestWf "ROSTER_ORDER" a
  | .rosterRotate a => requestWf "ROSTER_ROTATE" a
  | .rotateTimerExpiry _ => true
  | .coilAdmit a => requestWf "COIL_ADMIT" a
  | .coilRetire a => requestWf "COIL_RETIRE" a
  | .coilClear a => requestWf "COIL_CLEAR" a
  | .coilState a => requestWf "COIL_STATE" a
  | .strokeTimeout _ => true
  | .stepDwellExpiry _ => true
  | .admitTimeout _ => true
  | .admitSkipExpiry _ => true
  | .rundownExpiry _ => true
  | .keepwarmTimerExpiry _ => true
  | .kwDwellExpiry _ => true
  | .shedTimerExpiry _ => true
  | .shedCooldownExpiry _ => true
  | .frostState a => requestWf "FROST_STATE" a
  | .coilOut a => requestWf "COIL_OUT" a
  | .coilIn a => requestWf "COIL_IN" a
  | .coilAmendPut a => splitWf "COIL_AMEND" "op" "PUT" a
  | .coilAmendAnd a => splitWf "COIL_AMEND" "op" "AND" a
  | .coilAmendOr a => splitWf "COIL_AMEND" "op" "OR" a
  | .coilAmendXor a => splitWf "COIL_AMEND" "op" "XOR" a
  | .coilLimits a => requestWf "COIL_LIMITS" a
  | .coilMatch a => requestWf "COIL_MATCH" a
  | .overrideSet a => requestWf "OVERRIDE_SET" a
  | .overrideClear a => requestWf "OVERRIDE_CLEAR" a
  | .overrideExpiry _ => true
  | .overrideList a => requestWf "OVERRIDE_LIST" a
  | .busGrant => true
  | .replyFrame bytes => 0 < bytes.length && bytes.length ≤ 7
  | .replyWindowExpiry => true
  | .echoMismatch => true
  | .busDownExpiry => true
  | .roundStart => true
  | .pointStale _ _ => true
  | .busPassRead a => splitWf "BUS_PASS" "kind" "READ" a
  | .busPassWrite a => splitWf "BUS_PASS" "kind" "WRITE" a
  | .busPassIdent a => splitWf "BUS_PASS" "kind" "IDENT" a
  | .passWaitTimeout => true
  | .nodeState a => requestWf "NODE_STATE" a
  | .busState a => requestWf "BUS_STATE" a
  | .pulseSet a => requestWf "PULSE_SET" a
  | .pulseGet a => requestWf "PULSE_GET" a
  | .pulseEdge _ _ _ => true
  | .gateEnd _ => true
  | .inputSet a => requestWf "INPUT_SET" a
  | .inputGet a => requestWf "INPUT_GET" a
  | .inputPinChange _ _ => true
  | .debounceExpiry _ => true
  | .outdoorSet a => requestWf "OUTDOOR_SET" a
  | .hostOutdoorExpiry => true
  | .pulseState a => requestWf "PULSE_STATE" a
  | .inputState a => requestWf "INPUT_STATE" a
  | .traceRelease a => requestWf "TRACE_RELEASE" a
  | .traceCut a => requestWf "TRACE_CUT" a
  | .traceRead a => requestWf "TRACE_READ" a
  | .traceState a => requestWf "TRACE_STATE" a
  | .noticeEnable a => requestWf "NOTICE_ENABLE" a
  | .noticeClear a => requestWf "NOTICE_CLEAR" a
  | .identify a => requestWf "IDENTIFY" a
  | .status a => requestWf "STATUS" a
  | .uptimeSecond => true
  | .replyByteGap => true

end Sys2Proof
end

