-- ==== Sys2Proof/Tests/Slice0.lean ====
section
/-! SUPPORT. Tests of the definitions on small states: well-formedness, the manual's worked values, and, for every obligation with
hypotheses, a state and operands that meet them. -/

set_option Elab.async false

namespace Sys2Proof.Tests

open Sys2Proof Sys2Proof.Machine

/-! ## Small states -/

/-- The state an outcome leaves; the reset state where it leaves none. -/
def after : Host.Outcome State Fault Refusal → State
  | .next t => t
  | _ => State.reset

/-- The outcome is this next state. -/
def leaves (o : Host.Outcome State Fault Refusal) (t : State) : Bool :=
  match o with
  | .next u => decide (u = t)
  | _ => false

/-- What is placed with the transmitter after an outcome. -/
def said (o : Host.Outcome State Fault Refusal) : List Placement := (after o).link.tx

/-- The characters of a text, as the UART gives them. -/
def chars (t : String) : List HostChar := t.toList.map fun c => ⟨BitVec.ofNat 8 c.toNat, false⟩

/-- A line with its check digits. -/
def sealed (t : String) : List HostChar := chars (lineText t)

/-- One in-use loop L0 with pumps N1 and N2, bypass N3, supply N4.0, return N4.1, and coils C0 (fan N5, valve N6, outlet N4.2) and
C1 (fan N7, valve N8, outlet N4.3). -/
def cfg0 : Settings :=
  { Settings.default with
    nodes := ((((((((Vector.replicate 31 NodeRec.default).set 0 ⟨.pump, 1⟩).set 1 ⟨.pump, 1⟩).set 2 ⟨.valve, 1⟩).set 3
      ⟨.sensor, 4⟩).set 4 ⟨.fan, 1⟩).set 5 ⟨.valve, 1⟩).set 6 ⟨.fan, 1⟩).set 7 ⟨.valve, 1⟩
    loops := (Vector.replicate 4 LoopRec.default).set 0
      { LoopRec.default with inUse := true, pumpA := some 0, pumpB := some 1, bypass := some 2, supplyPt := some ⟨3, 0⟩,
                             returnPt := some ⟨3, 1⟩ }
    coils := ((Vector.replicate 16 CoilRec.default).set 0
      { CoilRec.default with loop := some 0, fanNode := some 4, valveNode := some 5, outletPt := some ⟨3, 2⟩ }).set 1
      { CoilRec.default with loop := some 0, fanNode := some 6, valveNode := some 7, outletPt := some ⟨3, 3⟩ }
    rosters := (Vector.replicate 4 []).set 0 [0, 1] }

/-- A part in COMMISSION with SVC active and those records. -/
def bench : State := { State.reset with cfg := cfg0, inputs := { State.reset.inputs with svc := ⟨false, false, none⟩ } }

/-- The same part in RUN with the poller waiting: nodes ONLINE, L0 RUNNING on pump A with a supply of 12.0, C0 SERVING and C1 ISOLATED, both
CLEAR. -/
def plant : State :=
  { bench with
    mode := .run
    uptime := 100
    bus := { bench.bus with poller := { round := 0, phase := .waiting, node := 0, step := 0 } }
    loops := bench.loops.set 0
      { LoopSt.cold0 with state := .running, pumpA := ⟨false, true, false⟩, tick := .running 0, bypass := 30 }
    coils := (bench.coils.set 0
      { CoilSt.cold0 with service := .serving, desiredValve := some 100, settled := true, frostGiven := .clear }).set 1
      { CoilSt.cold0 with service := .isolated, desiredValve := some 0, settled := true, frostGiven := .clear }
    nodes := Vector.replicate 31
      { NodeEntry.cold0 with state := .online, points := NodeEntry.cold0.points.set 0 ⟨some 120, some 90, .fresh⟩ } }

/-- L0 of the plant in another state of its regulator. -/
def withLoop (f : LoopSt → LoopSt) : State := plant.modLoop 0 f

/-- A coil of the plant in another state. -/
def withCoil (c : CoilId) (f : CoilSt → CoilSt) : State := plant.modCoil c f

/-- L0's plan in another state. -/
def withPlan (p : Plan) : State := plant.modPlan 0 fun _ => p

/-- The plant with another bus. -/
def withBus (f : Bus → Bus) : State := plant.modBus f

/-- The link of a state is free, and no report is on its way. -/
def free (s : State) : Bool :=
  s.link.resetPending.isNone && !s.link.replying && !s.bus.pass.held && s.bus.lost.isEmpty

theorem ready_of_free {s : State} (h : free s = true) : Ready s := by
  unfold free at h
  simp only [Bool.and_eq_true, Bool.not_eq_true', Option.isNone_iff_eq_none, List.isEmpty_iff] at h
  exact ⟨⟨h.1.1.1, h.1.1.2, h.1.2⟩, h.2⟩

/-- Every node of a state is neither OFFLINE nor WRONG_ROLE. -/
def reachable (s : State) : Bool := allNodes.all fun n => !(s.nodes[n]).state.isLost

theorem allReachable_of {s : State} (h : reachable s = true) : AllReachable s := by
  intro n
  have := List.all_eq_true.1 h n (List.mem_finRange n)
  simpa using this

theorem calm_of {s : State} (h : (s.bus.lost.isEmpty && reachable s) = true) : Calm s := by
  rw [Bool.and_eq_true, List.isEmpty_iff] at h
  exact ⟨h.1, allReachable_of h.2⟩

/-- The plant while a reply is being sent. -/
def replyingPlant : State := { plant with link := { plant.link with tx := [.reply "STATUS" .ok [] none] } }

/-- The plant with an accepted RESET answered in full. -/
def resetting (k : ResetKind) : State := { plant with link := { plant.link with resetPending := some k } }

/-- What has been traced since the plant. -/
def newEntries (t : State) : List TraceBody := (t.trace.h0.entries.drop plant.trace.h0.entries.length).map TraceEntry.body

/-- The seven bytes of a node's reply to a transaction of kind k (R195). -/
def frame (n : NodeId) (k st : Byte) (v : BitVec 16) : List Byte :=
  let body : List Byte := [BitVec.ofNat 8 (n.val + 1), k, st, v.extractLsb' 8 8, v.extractLsb' 0 8]
  body ++ [(crc16 body).extractLsb' 8 8, (crc16 body).extractLsb' 0 8]

/-- The last bytes of a GOOD reply to the poller's read of a node's point, with this value. -/
def reading (n : NodeId) (p : Fin 4) (v : Int) (s : State) : State × Instr :=
  (s.modBus fun b => { b with flight := some ⟨.poller, .read, n, p.val, 0, 40⟩, rx := [] },
    .replyFrame (frame n 1 0 (BitVec.ofInt 16 v)))

/-- What a reading leaves. -/
def afterReading (n : NodeId) (p : Fin 4) (v : Int) (s : State) : State :=
  after (exec (reading n p v s).2 (reading n p v s).1)

theorem readBy_reading (n : NodeId) (p : Fin 4) (v : Int) (s : State)
    (h : replyResult ⟨.poller, .read, n, p.val, 0, 40⟩ (frame n 1 0 (BitVec.ofInt 16 v)) = ⟨.good, some .accept, some v⟩)
    (online : (s.nodes[n]).state = .online) : (reading n p v s).1.readBy (reading n p v s).2 n p.val v :=
  ⟨_, _, some .accept, rfl, rfl, rfl, rfl, rfl, by simp [reading, State.modBus, frame], h, online⟩

/-- The same reply to a pass-through READ of the point. -/
def passing (n : NodeId) (p : Fin 4) (s : State) : State :=
  s.modBus fun b =>
    { b with flight := some ⟨.pass, .read, n, p.val, 0, 40⟩, rx := [], pass := .inFlight ⟨.read, n, p.val, 0⟩ }

theorem readBy_passing (n : NodeId) (p : Fin 4) (v : Int) (s : State)
    (h : replyResult ⟨.pass, .read, n, p.val, 0, 40⟩ (frame n 1 0 (BitVec.ofInt 16 v)) = ⟨.good, some .accept, some v⟩)
    (online : (s.nodes[n]).state = .online) :
    (passing n p s).readBy (reading n p v s).2 n p.val v ∧ (passing n p s).answersPass (reading n p v s).2 :=
  ⟨⟨_, _, some .accept, rfl, rfl, rfl, rfl, rfl, by simp [passing, State.modBus, frame], h, online⟩, ⟨_, _, _, rfl, rfl, rfl, rfl⟩⟩

theorem ready_plant : Ready plant := ready_of_free (by decide +kernel)
theorem ready_bench : Ready bench := ready_of_free (by decide +kernel)
theorem calm_plant : Calm plant := calm_of (by decide +kernel)

/-! ## Well-formedness: each check accepts a command and refuses an ill-formed one -/

theorem test_wf_request : (Instr.planRun [kv "loop" "L0"]).wf = true ∧ (Instr.planRun [kv "lo op" "L0"]).wf = false := by
  decide +kernel
theorem test_wf_token_without_mark : (Instr.status [kv "a" "b#c"]).wf = false ∧ (Instr.status [⟨"", none⟩]).wf = false := by
  decide +kernel
theorem test_wf_key_without_equals : (Instr.status [⟨"a=b", some "c"⟩]).wf = false := by decide +kernel
theorem test_wf_line_length :
    (Instr.status [⟨String.ofList (List.replicate 192 'a'), none⟩]).wf = true ∧
    (Instr.status [⟨String.ofList (List.replicate 193 'a'), none⟩]).wf = false := by decide +kernel
theorem test_wf_split_row :
    (Instr.resetWarm []).wf = true ∧ (Instr.resetWarm [⟨String.ofList (List.replicate 190 'a'), none⟩]).wf = false := by
  decide +kernel
theorem test_wf_bad_line :
    (Instr.badLine (chars "?STATUS#9D")).wf = true ∧ (Instr.badLine (chars "?STATUS#9C")).wf = false ∧
    (Instr.badLine []).wf = false ∧ (Instr.badLine (chars "?A#000")).wf = true ∧ (Instr.badLine (chars "?A#0000")).wf = false := by
  decide +kernel
theorem test_wf_unknown_name :
    (Instr.nameUnknown "HELLO" []).wf = true ∧ (Instr.nameUnknown "STATUS" []).wf = false ∧ (Instr.nameUnknown "" []).wf = false := by
  decide +kernel
theorem test_wf_reply :
    (Instr.replyFrame [1#8]).wf = true ∧ (Instr.replyFrame []).wf = false ∧ (Instr.replyFrame (List.replicate 8 0#8)).wf = false := by
  decide +kernel

/-! ## Values the manual works out -/

/-- POWER_ON of a part never written, with the pins of assumption 4, gives the reset state (R20). -/
theorem test_power_on_is_reset : leaves (exec (.powerOn ⟨false, false, 0, true, 0⟩) State.reset) State.reset = true := by decide +kernel
/-- The check digits of a STATUS line (chapter 10). -/
theorem test_status_line : lineText "?STATUS" = "?STATUS#9C" := by decide +kernel
/-- The ramp example of R41: 12.0 to 8.0 in 30 minutes stands at 10.6 after 10. -/
theorem test_ramp : ((withPlan { Plan.blank with
    slots := Plan.blank.slots.set 0 (some ⟨80, 5, 100, 0, 16, 60, 30, false⟩), state := .active, elapsed := 600,
    rampStart := some 120 }).effective 0).target = 106 := by decide +kernel
/-- The default frost levels of R110 and R111. -/
theorem test_frost_levels :
    classify .default .clear (-170) = .watch ∧ classify .default .clear (-169) = .clear ∧ classify .default .clear (-220) = .trip ∧
    classify .default .watch (-160) = .clear ∧ classify .default .watch (-165) = .watch ∧ classify .default .trip (-210) = .watch ∧
    classify .default .trip (-211) = .trip ∧ classify .default .unknown (-165) = .clear := by decide +kernel

/-! ## The queue, the laws, and how far a command reaches: states that meet the hypotheses -/

theorem witness_StepTakesTheFrontCommand :
    leaves (step { plant with pending := [.uptimeSecond, .busGrant] }) (after (exec .uptimeSecond { plant with pending := [.busGrant] })) = true := by
  decide +kernel

theorem witness_answer_line_follows_a_reply :
    plant.pending = [] ∧ plant.link.tx = [] ∧ leaves (step plant) plant = true ∧
    (let s : State := { plant with link := { plant.link with tx := [.notice [.plan], .err .gap], answer := some (.err .check) } }
     s.pending = [] ∧ (after (step s)).link.tx = [.err .gap, .err .check] ∧ (after (step s)).link.answer = none) ∧
    (let r : Placement := .reply "STATUS" .ok [] none
     let s : State := { plant with link := { plant.link with tx := [r, r], answer := some (.err .check) } }
     s.pending = [] ∧ (after (step s)).link.tx = [r] ∧ (after (step s)).link.answer = some (.err .check)) := by decide +kernel

/-- A ring with both halves FULL, LOCKED since 5. -/
def lockedTrace : Trace := { h0 := ⟨.full, [], 1⟩, h1 := ⟨.full, [], 2⟩, next := 3, writer := .locked 5, missed := 7 }

theorem witness_EveryStepKeepsTheTraceAndNoticeLaws :
    TraceLaw lockedTrace ∧ NoticeLaw { pending := [.trace, .mode], enabled := [.plan], due := true } ∧
    ∃ t, step { plant with trace := lockedTrace, pending := [.busGrant] } = .next t := by
  refine ⟨⟨⟨by decide, by decide, by decide⟩, ⟨by decide, by decide, by decide⟩, by decide, by decide, ?_⟩,
    ⟨by decide, by decide⟩, _, rfl⟩
  exact ⟨rfl, rfl⟩

theorem witness_EveryStepKeepsTheQueueAndPlanLaws :
    QueueLaw { plant.bus with urgent := [⟨0, 1, 0⟩], routine := [⟨1, 0, 0⟩, ⟨2, 100, 0⟩] } ∧ (∀ l : LoopId, PlanLaw bench.plans[l]) ∧
    ∃ t, step { plant with pending := [.uptimeSecond] } = .next t := by
  refine ⟨by unfold QueueLaw; decide, ?_, _, rfl⟩
  intro l
  have h : bench.plans[l] = Plan.blank := by revert l; decide +kernel
  rw [h]
  exact ⟨by decide, by decide, by decide⟩

theorem rosterLaw_cfg0 : RosterLaw cfg0 := by unfold RosterLaw; decide +kernel

theorem bindingLaw_cfg0 : BindingLaw cfg0 where
  once := by decide +kernel
  roles := by
    intro o
    cases o with
    | coilFan c => revert c; decide +kernel
    | coilValve c => revert c; decide +kernel
    | pump l p => cases p <;> revert l <;> decide +kernel
    | bypass l => revert l; decide +kernel
  points := by decide +kernel

/-- The records of the bench keep their laws, in the working copy and in an image; a part in COMMISSION keeps the law of the mode. -/
theorem witness_EveryStepKeepsTheRecordAndModeLaws :
    RecordLaws { bench with store := { settings := .valid cfg0, identity := .blank, saving := some ⟨cfg0, none⟩ } } ∧
    ModeLaw bench ∧ bench.mode = .commission ∧ ∃ t, step { bench with pending := [.modeSetRun []] } = .next t := by
  refine ⟨⟨⟨rosterLaw_cfg0, bindingLaw_cfg0⟩, ?_, ?_⟩, by unfold ModeLaw; decide +kernel, rfl, _, rfl⟩
  · rintro g h; cases h; exact ⟨rosterLaw_cfg0, bindingLaw_cfg0⟩
  · rintro j h; cases h; exact ⟨rosterLaw_cfg0, bindingLaw_cfg0⟩

/-- The same part in RUN, its unassigned coils OUT. -/
def running : State :=
  { plant with coils := Vector.ofFn fun c : CoilId =>
      if c.val < 2 then plant.coils[c] else { plant.coils[c] with service := .out } }

theorem witness_a_part_in_run :
    RecordLaws running ∧ RunLaw running ∧ running.mode = .run ∧ ∃ t, step { running with pending := [.loopTick 0] } = .next t :=
  ⟨⟨⟨rosterLaw_cfg0, bindingLaw_cfg0⟩, (by rintro g ⟨⟩), (by rintro j ⟨⟩)⟩, by unfold RunLaw; decide +kernel, rfl, _, rfl⟩

/-- The plant with C0 SHEDDING with the permit at its shed speed, C1 queued for keep-warm, and both CLEAR. -/
def lawfulPlant : State :=
  { ((plant.modCoil 0 fun x => { x with service := .shedding, desiredFan := -60 }).modUnit 0 fun u =>
      { u with permit := some 0, kwQueue := [1] }) with
    frost := (plant.frost.set 0 ⟨.clear, some 0, 5, .reading⟩).set 1 ⟨.clear, some 0, 5, .reading⟩ }

theorem loopCoilLaw_lawfulPlant (l : LoopId) : LoopCoilLaw lawfulPlant l where
  admitting := by revert l; decide +kernel
  queued := by revert l; decide +kernel
  once := by revert l; decide +kernel
  cycles := by revert l; decide +kernel
  room := by revert l; decide +kernel
  shedding := by revert l; decide +kernel
  shedders := by revert l; decide +kernel

theorem witness_EveryStepKeepsTheCoilLaws :
    RecordLaws lawfulPlant ∧ ModeLaw lawfulPlant ∧ CoilLaws lawfulPlant ∧ (lawfulPlant.coils[(0 : CoilId)]).desiredFan ≠ 0 ∧
    ∃ t, step { lawfulPlant with pending := [.shedTimerExpiry 0] } = .next t := by
  refine ⟨⟨⟨rosterLaw_cfg0, bindingLaw_cfg0⟩, ?_, ?_⟩, by unfold ModeLaw; decide +kernel, ⟨loopCoilLaw_lawfulPlant, fun c => ?_⟩,
    by decide +kernel, _, rfl⟩
  · rintro g ⟨⟩
  · rintro j ⟨⟩
  · constructor <;> revert c <;> decide +kernel

theorem witness_CommandsKeepWhatTheyDoNotReach :
    (Instr.busGrant).reach ≤ 1 ∧ (Instr.traceCut []).reach ≤ 2 ∧ (Instr.loopTick 0).plantTimer = true ∧
    (∃ t, exec .busGrant plant = .next t) ∧ (∃ t, exec (.traceCut []) plant = .next t) ∧ ∃ t, exec (.loopTick 0) plant = .next t :=
  ⟨by decide, by decide, by decide, ⟨_, rfl⟩,
    ⟨_, rfl⟩, _, rfl⟩

/-! ## The host link -/

/-- The plant with this much of a line received. -/
def receiving (line : List HostChar) : State := { plant with link := { plant.link with receiver := .receiving line } }

theorem witness_LineIsItsRequest :
    let line := chars "?STATUS#9C"
    (receiving line).link.resetPending = none ∧ HostChar.isLF ⟨0x0A#8, false⟩ = true ∧ lineFault (stripCR line) = none ∧
    (Instr.status []).request = some (readRequest (lineContent (stripCR line))) ∧
    (let a := sealed "?PLAN_PUT loop=L0  slot=3 x"
     lineFault (stripCR a) = none ∧
     (Instr.planPut [kv "loop" "L0", kv "slot" "3", ⟨"x", none⟩]).request = some (readRequest (lineContent (stripCR a)))) := by
  decide +kernel

theorem witness_ReceiverFollowsItsTable :
    plant.bus.lost = [] ∧ plant.link.resetPending = none ∧ plant.link.receiver = .idle ∧
    HostChar.isCR ⟨0x0D#8, false⟩ = true ∧ HostChar.isLF ⟨0x0D#8, false⟩ = false ∧ HostChar.isLF ⟨0x41#8, false⟩ = false ∧
    (let c : HostChar := ⟨0x41#8, false⟩
     let full := chars (String.ofList (List.replicate 200 'a'))
     let marked := chars "?A#00"
     (after (exec (.hostCharReceived c) (receiving full))).link.tx = [.err .length] ∧
     (after (exec (.hostCharReceived c) (receiving full))).link.receiver = .discarding ∧
     (after (exec (.hostCharReceived ⟨0x23#8, false⟩) (receiving full))).link.tx = [] ∧
     (after (exec (.hostCharReceived c) (receiving (full.drop 1)))).link.tx = [] ∧
     (after (exec (.hostCharReceived c) (receiving marked))).link.tx = [] ∧
     (after (exec (.hostCharReceived c) (receiving (marked ++ [c])))).link.tx = [.err .length] ∧
     (after (exec .hostGapTimeout (receiving full))).link.tx = [.err .gap] ∧
     (after (exec .hostGapTimeout (receiving full))).link.receiver = .idle) := by decide +kernel

theorem witness_BadLineIsAnswered :
    lineFault (chars "?STATUS#9D") = some .check ∧ lineFault (chars "?STATUS") = some .check ∧ lineFault (sealed "STATUS") = some .syn ∧
    lineFault (sealed "? ") = some .syn ∧ plant.link.replying = false ∧
    said (exec (.badLine (sealed "STATUS")) plant) = [.err .syn] ∧
    (∀ c ∈ chars "?STATUS", HostChar.isHash c = false) ∧ HostChar.isHash ⟨0x23#8, false⟩ = true ∧
    HostChar.hex ⟨0x39#8, false⟩ = some 9 ∧ HostChar.hex ⟨0x63#8, false⟩ = some 12 ∧
    lineFault (chars "?STATUS##C") = some .check ∧ lineFault (chars "?STATUS#9CC") = some .check ∧
    lineFault (chars "?STATUS#9") = some .check ∧ lineFault (chars "?STATUS#9G") = some .check ∧
    lineFault (chars "?STATUS#9c") = none ∧ lineFault (sealed "?\tX") = some .syn ∧ lineFault (sealed "? X") = none ∧
    HostChar.hex ⟨0x47#8, false⟩ = none ∧ HostChar.hex ⟨0x39#8, true⟩ = none := by decide +kernel

theorem witness_requests_are_busy :
    (Instr.planRun []).request = some ("PLAN_RUN", []) ∧ plant.bus.lost = [] ∧ replyingPlant.link.replying = true ∧
    (after (exec (.planRun []) replyingPlant)).link.answer = some (.reply "PLAN_RUN" .busy [] none) ∧
    (let s := withBus fun b => { b with pass := .waiting ⟨.read, 0, 1, 0⟩ 2 }
     s.link.replying = false ∧ s.bus.pass.held = true ∧ said (exec (.planRun []) s) = [.reply "PLAN_RUN" .busy [] none]) ∧
    (let s : State := { plant with link := { plant.link with resetPending := some .cold } }
     s.link.resetPending.isSome = true ∧ leaves (exec (.planRun []) s) s = true) := by decide +kernel

theorem witness_requests_are_checked :
    Ready plant ∧ knownName "HELLO" = false ∧ readLoop "L4" = none ∧
    said (exec (.nameUnknown "HELLO" [kv "a" "b"]) plant) = [.reply "HELLO" .unknown [] none] ∧
    said (exec (.planRun [kv "loop" "L4"]) plant) = [.reply "PLAN_RUN" .badArg [("key", .word "loop")] none] :=
  ⟨ready_plant, by decide +kernel⟩

theorem witness_RepliesOtherThanOkChangeNothing :
    Ready plant ∧ (Instr.planRun [kv "loop" "L0"]).request = some ("PLAN_RUN", [kv "loop" "L0"]) ∧
    leaves (exec (.planRun [kv "loop" "L0"]) plant) (plant.place (.reply "PLAN_RUN" .refused [("why", .word "STATE")] none)) = true :=
  ⟨ready_plant, by decide +kernel⟩

theorem witness_AnswerAndNoticeLinesAreSent :
    let s : State := { plant with notice := { pending := [.plan, .mode], enabled := [.mode], due := true } }
    s.bus.lost = [] ∧ s.notice.due = true ∧ s.link.tx = [] ∧ s.link.answer = none ∧
    said (exec .noticeLine s) = [.notice [.mode]] ∧ (after (exec .noticeLine s)).notice.due = false ∧
    (let u : State := { plant with notice := { pending := [.plan], enabled := [.mode], due := true } }
     said (exec .noticeLine u) = [] ∧ (after (exec .noticeLine u)).notice.due = false) ∧
    (let u : State := { s with link := { s.link with answer := some (.err .gap) } }
     leaves (exec .noticeLine u) u = true ∧ said (exec .answerLineSent u) = [.err .gap]) := by decide +kernel

theorem witness_NoticeRequestsReplaceAndRemove :
    let s : State := { plant with notice := { pending := [.plan, .mode], enabled := [.mode], due := false } }
    Ready s ∧ [Source.store, .plan] ≠ [] ∧
    (after (exec (.noticeEnable [kv "sources" "STORE,PLAN"]) s)).notice = { pending := [.plan, .mode], enabled := [.plan, .store], due := true } ∧
    (after (exec (.noticeClear [kv "sources" "PLAN,PLAN"]) s)).notice.pending = [.mode] :=
  ⟨ready_of_free (by decide +kernel), by decide +kernel⟩

/-! ## Readings -/

theorem witness_RecordsAreRead :
    Ready plant ∧ said (exec (.nodeGet [kv "node" "N4"]) plant) =
      [.reply "NODE_GET" .ok [("node", .word "N4")] (some [[("role", .word "SENSOR")], [("channels", .int 4)]])] :=
  ⟨ready_plant, by decide +kernel⟩

theorem witness_PlansLoopsAndRostersAreRead :
    let args := [kv "loop" "L3", kv "slot" "7"]
    Ready plant ∧ loopArg args = some 3 ∧ badArg [loopKey, slotKey "slot"] args = none ∧ (argOf args "slot").bind readSlot = some 7 ∧
    said (exec (.planGet args) plant) = [.reply "PLAN_GET" .ok
      [("slot", .int 7), ("filled", .yesNo false), ("live", .yesNo false)] none] ∧
    readSlot "8" = none ∧ loopArg [kv "loop" (loopName 3), kv "slot" "8"] = some 3 ∧
    said (exec (.rosterGet [kv "loop" "L0"]) plant) = [.reply "ROSTER_GET" .ok
      [("loop", .word "L0"), ("count", .int 2), ("order", .words ["C0", "C1"]), ("rotate", .none)] none] :=
  ⟨ready_plant, by decide +kernel⟩

theorem witness_CoilsFrostAndOverridesAreRead :
    Ready plant ∧ badArg [.may "coils" [.mask] (known readMask)] ([] : List Arg) = none ∧
    badArg [.may "coils" [.mask] (known readMask)] [kv "coils" "x8001"] = none ∧ readLoop "L9" = none ∧
    (let args := [kv "coils" "x0003", kv "state" "SERVING", kv "loop" "L0,none"]
     badArg matchKeys args = none ∧
     said (exec (.coilMatch args) plant) = [.reply "COIL_MATCH" .ok [("coils", .mask 1), ("count", .int 1)] none]) :=
  ⟨ready_plant, by decide +kernel⟩

theorem witness_RoofAndInputsAreRead :
    Ready plant ∧ said (exec (.pulseGet [kv "channel" "P5"]) plant) = [.reply "PULSE_GET" .ok
      [("channel", .word "P5"), ("mode", .word "OFF"), ("edge", .word "RISE"), ("scale", .temp 10), ("silence", .int 10),
       ("role", .words ["NONE"]), ("loops", .none)] none] :=
  ⟨ready_plant, by decide +kernel⟩

theorem witness_TraceIsRead :
    let args := [kv "half" "H0", kv "from" "6"]
    Ready plant ∧ badArgOrdered traceReadKeys args = none ∧ halfArg args = some .h0 ∧ (argOf args "from").bind readInt = some 6 ∧
    argOf args "count" = none ∧ (6 : Nat) < plant.trace.h0.entries.length ∧
    said (exec (.traceRead args) plant) = [.reply "TRACE_READ" .ok
      [("half", .word "H0"), ("state", .word "FILLING"), ("serial", .int 1), ("fill", .int 7), ("from", .int 6), ("count", .int 1)]
      (some [[("idx", .int 6), ("t", .int 0), ("kind", .word "EVENT"), ("subj", .word "PART"),
        ("code", .word "MODE"), ("cause", .word "START")]])] ∧
    (let late := [kv "half" "H1", kv "from" "0", kv "count" "1"]
     badArgOrdered traceReadKeys late = none ∧ halfArg late = some .h1 ∧ (argOf late "count").bind readInt = some 1 ∧
     plant.trace.h1.entries.length ≤ 0) :=
  ⟨ready_plant, by decide +kernel⟩

/-! ## Records, modes, the store, starts -/

/-- The plant with SVC inactive. -/
def plantLocked : State := plant.modInputs fun i => { i with svc := ⟨true, true, none⟩ }

theorem witness_WritesSetTheNamedFields :
    let args := [kv "fan_min" "30", kv "options" "SHED_OK"]
    (args.map Arg.key).Nodup ∧ hasKey args "fan_max" = false ∧ (⟨"fan_min", some "30"⟩ : Arg) ∈ args ∧
    (natCol "fan_min" .operate 10 50 CoilRec.fanMin (fun r x => { r with fanMin := x })).put .default "30" =
      some { CoilRec.default with fanMin := 30 } ∧
    (applyArgs coilCols args .default).fanMin = 30 ∧ (applyArgs coilCols args .default).fanMax = 100 := by decide +kernel

/-- Each form of a range at its ends. -/
theorem witness_field_ranges :
    let takes := fun {α : Type} (f : Col α) (r : α) (v : String) => (f.put r v).map f.get
    (loopCols.filter fun f => f.key = "prove").map (fun f => ["9", "10", "120", "121", "x"].map (takes f LoopRec.default)) =
      [[none, some (.int 10), some (.int 120), none, none]] ∧
    (loopCols.filter fun f => f.key = "freeze").map (fun f => ["-60.1", "-60.0", "0", "0.1"].map (takes f LoopRec.default)) =
      [[none, some (.temp (-600)), some (.temp 0), none]] ∧
    (loopCols.filter fun f => f.key = "sample_every").map (fun f => ["0", "60", "61"].map (takes f LoopRec.default)) =
      [[some (.int 0), some (.int 60), none]] ∧
    (coilCols.filter fun f => f.key = "fan_node").map (fun f => ["none", "N31", "N32"].map (takes f CoilRec.default)) =
      [[some .none, some (.word "N31"), none]] ∧
    (coilCols.filter fun f => f.key = "outlet_pt").map (fun f => ["none", "N1.3", "N32.0"].map (takes f CoilRec.default)) =
      [[some .none, some (.word "N1.3"), none]] ∧
    (coilCols.filter fun f => f.key = "options").map (fun f => ["REVERSE_OK,SHED_OK", "ALL"].map (takes f CoilRec.default)) =
      [[some (.words ["SHED_OK", "REVERSE_OK"]), none]] := by decide +kernel

theorem witness_writes_out_of_range :
    setFault [loopKey] loopCols .default [kv "loop" "L0", kv "prove" "9"] = some "prove" ∧
    said (exec (.loopSet [kv "loop" "L0", kv "prove" "9"]) plant) = [.reply "LOOP_SET" .badArg [("key", .word "prove")] none] ∧
    (let args := [kv "node" "N1", kv "channels" "2"]
     setFault [nodeKey] nodeCols .default args = none ∧ nodeArg args = some 0 ∧
     said (exec (.nodeSet args) plant) = [.reply "NODE_SET" .badArg [("key", .word "channels")] none]) ∧
    (let args := [kv "loop" "L0", kv "watch_margin" "3.0"]
     setFault [loopKey] loopCols .default args = none ∧ loopArg args = some 0 ∧
     args.find? (fun b => b.key = "watch_margin" ∨ b.key = "trip_margin") = some (kv "watch_margin" "3.0") ∧
     said (exec (.loopSet args) plant) = [.reply "LOOP_SET" .badArg [("key", .word "watch_margin")] none]) ∧
    (let args := [kv "coil" "C0", kv "outlet_pt" "none"]
     setFault [coilKey] coilCols .default args = none ∧ coilArg args = some 0 ∧
     said (exec (.coilSet args) plant) = [.reply "COIL_SET" .badArg [("key", .word "outlet_pt")] none]) ∧
    (let args := [kv "coil" "C0", kv "fan_max" "50", kv "fan_min" "50"]
     setFault [coilKey] coilCols .default args = none ∧ coilArg args = some 0 ∧
     args.find? (fun b => b.key = "fan_min" ∨ b.key = "fan_max") = some (kv "fan_max" "50") ∧
     said (exec (.coilSet args) plant) = [.reply "COIL_SET" .badArg [("key", .word "fan_max")] none]) := by decide +kernel

/-- The first pass of a line: form over the whole line, then range, then the missing selector (R2, R186). -/
theorem witness_first_pass :
    let fault := setFault [loopKey] loopCols .default
    let specs := [loopKey] ++ loopCols.map (Col.spec LoopRec.default)
    fault [kv "prove" "9", kv "tick" "x"] = some "tick" ∧ fault [kv "prove" "9", kv "sheds" "9"] = some "prove" ∧
    fault [kv "prove" "10", kv "sheds" "9"] = some "sheds" ∧ fault [kv "prove" "10"] = some "loop" ∧
    fault [kv "prove" "10", kv "loop" "L0"] = none ∧
    (specOf specs "prove").map (fun x => x.forms.map fun f => f.accepts "9") = some [true] ∧
    (specOf specs "tick").map (fun x => x.forms.map fun f => f.accepts "x") = some [false] ∧
    (specOf specs "prove").map (fun x => [x.ok "9", x.ok "10"]) = some [false, true] ∧ (specOf specs "sheds").isNone = true := by
  decide +kernel

theorem witness_RangeTierAndModeGuardWrites :
    Ready plant ∧ Ready plantLocked ∧ plantLocked.inputs.svc.debounced = true ∧ plant.inputs.svc.debounced = false ∧ plant.mode = .run ∧
    (let args := [kv "loop" "L0", kv "tick" "20", kv "floor" "9.0", kv "in_use" "no"]
     setFault [loopKey] loopCols .default args = none ∧ loopArg args = some 0 ∧
     (applyArgs loopCols args plant.cfg.loops[0]).tripMargin ≤ (applyArgs loopCols args plant.cfg.loops[0]).watchMargin - 10 ∧
     args.find? (fun a => tierOf loopCols a ≠ .operate) = some (kv "floor" "9.0") ∧
     args.find? (fun a => tierOf loopCols a = .binding) = some (kv "in_use" "no") ∧
     said (exec (.loopSet args) plantLocked) =
       [.reply "LOOP_SET" .refused [("why", .word "TIER"), ("key", .word "floor")] none] ∧
     said (exec (.loopSet args) plant) =
       [.reply "LOOP_SET" .refused [("why", .word "MODE"), ("key", .word "in_use")] none]) ∧
    (let args := [kv "outdoor_pt" "N4.0"]
     setFault [] (siteCols plant.cfg.chans) plant.cfg.site args = none ∧
     args.find? (fun a => tierOf (siteCols plant.cfg.chans) a = .binding) = some (kv "outdoor_pt" "N4.0")) ∧
    (let args := [kv "node" "N31", kv "role" "FAN"]
     setFault [nodeKey] nodeCols .default args = none ∧ nodeArg args = some 30 ∧
     (applyArgs nodeCols args plant.cfg.nodes[(30 : NodeId)]).channels = 1 ∧
     args.find? (fun a => tierOf nodeCols a = .binding) = some (kv "role" "FAN")) ∧
    (let args := [kv "coil" "C15", kv "loop" "none"]
     setFault [coilKey] coilCols .default args = none ∧ coilArg args = some 15 ∧
     coilCross (applyArgs coilCols args plant.cfg.coils[(15 : CoilId)]) args = none ∧
     args.find? (fun a => tierOf coilCols a = .binding) = some (kv "loop" "none")) ∧
    (let args := [kv "channel" "P0", kv "mode" "COUNT"]
     setFault [chanKey] chanCols .default args = none ∧ chanArg args = some 0 ∧
     args.find? (fun a => tierOf chanCols a ≠ .operate) = some (kv "mode" "COUNT")) ∧
    (let args := [kv "input" "D7", kv "role" "PLANT_STOP"]
     setFault [inputKey] inputCols .default args = none ∧ inputArg args = some 7 ∧
     args.find? (fun a => tierOf inputCols a ≠ .operate) = some (kv "role" "PLANT_STOP")) :=
  ⟨ready_plant, ready_of_free (by decide +kernel), by decide +kernel⟩

/-- What the third pass of each write tries is what its record refuses. -/
theorem witness_refusals :
    (∀ (s : State) r args k, stateFault (fun k => k = "outdoor_pt" && !Settings.pointSound s.cfg r.outdoorPt) args = some k ↔
      firstRefused (s.siteRefuses r) args k) ∧
    (∀ (s : State) n r args k, stateFault (s.nodeSetBad n r) args = some k ↔ firstRefused (s.nodeRefuses n r) args k) ∧
    (∀ (s : State) l r args k, stateFault (s.loopSetBad l r) args = some k ↔ firstRefused (s.loopRefuses l r) args k) ∧
    (∀ (s : State) c r args k, stateFault (s.coilSetBad c r) args = some k ↔ firstRefused (s.coilRefuses c r) args k) ∧
    ∀ (s : State) p r args k, stateFault (fun k => k = "mode" && s.isOutdoorChan p && r.mode ≠ .width) args = some k ↔
      firstRefused (s.chanRefuses p r) args k :=
  ⟨fun _ _ _ _ => stateFault_some_iff (siteSetBad_iff _ _) _ _, fun _ _ _ _ _ => stateFault_some_iff (nodeSetBad_iff _ _ _) _ _,
    fun _ _ _ _ _ => stateFault_some_iff (loopSetBad_iff _ _ _) _ _, fun _ _ _ _ _ => stateFault_some_iff (coilSetBad_iff _ _ _) _ _,
    fun _ _ _ _ _ => stateFault_some_iff (chanSetBad_iff _ _ _) _ _⟩

/-- A text refused with STATE and a key. -/
def refusedAt (name key : String) : List Placement :=
  [.reply name .refused [("why", .word "STATE"), ("key", .word key)] none]

/-- The bench with P0 as outdoor_pulse. -/
def pulsed : State := bench.modCfg fun g => { g with site := { g.site with outdoorPulse := some 0 } }

/-- A point of N5, a fan; N4, of which four points are bound, with one channel; C0's valve as a pump. -/
theorem witness_site_node_and_loop_writes_refused :
    Ready pulsed ∧
    (let args := [kv "bus_rate" "9600", kv "outdoor_pt" "N5.0"]
     setFault [] (siteCols pulsed.cfg.chans) pulsed.cfg.site args = none ∧ pulsed.mayWrite (siteCols pulsed.cfg.chans) args ∧
     said (exec (.siteSet args) pulsed) = refusedAt "SITE_SET" "outdoor_pt") ∧
    (let args := [kv "node" "N4", kv "channels" "1"]
     let r := applyArgs nodeCols args pulsed.cfg.nodes[(3 : NodeId)]
     setFault [nodeKey] nodeCols .default args = none ∧ nodeArg args = some 3 ∧ r.role = .sensor ∧ pulsed.mayWrite nodeCols args ∧
     stateFault (pulsed.nodeSetBad 3 r) args = some "channels" ∧ said (exec (.nodeSet args) pulsed) = refusedAt "NODE_SET" "channels") ∧
    (let args := [kv "loop" "L0", kv "tick" "20", kv "pump_a" "N6", kv "in_use" "no"]
     let r := applyArgs loopCols args pulsed.cfg.loops[(0 : LoopId)]
     setFault [loopKey] loopCols .default args = none ∧ loopArg args = some 0 ∧ r.tripMargin ≤ r.watchMargin - 10 ∧
     pulsed.mayWrite loopCols args ∧ stateFault (pulsed.loopSetBad 0 r) args = some "pump_a" ∧
     said (exec (.loopSet args) pulsed) = refusedAt "LOOP_SET" "pump_a") :=
  ⟨ready_of_free (by decide +kernel), by decide +kernel⟩

/-- Pump B as pump A, a loop with coils out of use, fewer cycles than are SCHEDULED, a loop not in use, a COUNT channel as outdoor_pulse. -/
theorem witness_loop_coil_and_pulse_writes_refused :
    said (exec (.loopSet [kv "loop" "L0", kv "pump_a" "N2"]) pulsed) = refusedAt "LOOP_SET" "pump_a" ∧
    said (exec (.loopSet [kv "loop" "L0", kv "in_use" "no"]) pulsed) = refusedAt "LOOP_SET" "in_use" ∧
    (let w := plant.modUnit 0 fun u => { u with kwCount := 2 }
     w.mayWrite loopCols [kv "loop" "L0", kv "kw_concurrency" "1"] ∧
     said (exec (.loopSet [kv "loop" "L0", kv "kw_concurrency" "1"]) w) = refusedAt "LOOP_SET" "kw_concurrency" ∧
     said (exec (.loopSet [kv "loop" "L0", kv "kw_concurrency" "2"]) w) = [.reply "LOOP_SET" .ok [] none]) ∧
    (let args := [kv "coil" "C0", kv "fan_min" "10", kv "loop" "L1"]
     let r := applyArgs coilCols args pulsed.cfg.coils[(0 : CoilId)]
     setFault [coilKey] coilCols .default args = none ∧ coilArg args = some 0 ∧ coilCross r args = none ∧ pulsed.mayWrite coilCols args ∧
     stateFault (pulsed.coilSetBad 0 r) args = some "loop" ∧ said (exec (.coilSet args) pulsed) = refusedAt "COIL_SET" "loop") ∧
    (let args := [kv "channel" "P0", kv "mode" "COUNT"]
     let r := applyArgs chanCols args pulsed.cfg.chans[(0 : ChanId)]
     setFault [chanKey] chanCols .default args = none ∧ chanArg args = some 0 ∧ pulsed.mayWrite chanCols args ∧ r.mode ≠ .width ∧
     said (exec (.pulseSet args) pulsed) = refusedAt "PULSE_SET" "mode") := by decide +kernel

theorem witness_site_pulse_and_input_writes :
    Ready bench ∧ (∀ r args, stateFault (fun k => k = "outdoor_pt" && !Settings.pointSound bench.cfg r.outdoorPt) args = none ↔
      ∀ b ∈ args, ¬ bench.siteRefuses r b.key) ∧
    (∀ p r args, stateFault (fun k => k = "mode" && bench.isOutdoorChan p && r.mode ≠ .width) args = none ↔
      ∀ b ∈ args, ¬ bench.chanRefuses p r b.key) ∧
    (let args := [kv "bus_rate" "38400", kv "outdoor_pt" "N4.3"]
     bench.mayWrite (siteCols bench.cfg.chans) args ∧ setFault [] (siteCols bench.cfg.chans) bench.cfg.site args = none ∧
     Settings.pointSound bench.cfg (applyArgs (siteCols bench.cfg.chans) args bench.cfg.site).outdoorPt = true ∧
     said (exec (.siteSet args) bench) = [.reply "SITE_SET" .ok [] none] ∧
     (after (exec (.siteSet args) bench)).cfg.site.busRate = 38400 ∧ (after (exec (.siteSet args) bench)).bus.rate = 19200) ∧
    (let args := [kv "channel" "P5", kv "mode" "WIDTH"]
     setFault [chanKey] chanCols .default args = none ∧ chanArg args = some 5 ∧ bench.mayWrite chanCols args ∧
     bench.isOutdoorChan 5 = false ∧
     (((after (exec (.pulseSet args) bench)).inputs.chans)[(5 : ChanId)]).status = .silent) ∧
    (let args := [kv "channel" "P5", kv "silence" "60"]
     setFault [chanKey] chanCols .default args = none ∧ said (exec (.pulseSet args) bench) = [.reply "PULSE_SET" .ok [] none] ∧
     ((after (exec (.pulseSet args) bench)).cfg.chans[(5 : ChanId)]).silence = 60) ∧
    (let args := [kv "input" "D0", kv "level" "LOW", kv "role" "SNOW_WARN"]
     setFault [inputKey] inputCols .default args = none ∧ inputArg args = some 0 ∧
     bench.mayWrite inputCols args ∧ (after (exec (.inputSet args) bench)).inputs.snowWarn = true) :=
  ⟨ready_bench, fun _ _ => stateFault_none_iff (siteSetBad_iff _ _) _, fun _ _ _ => stateFault_none_iff (chanSetBad_iff _ _ _) _,
    by decide +kernel⟩

theorem witness_node_and_loop_writes :
    Ready bench ∧ (∀ n r args, stateFault (bench.nodeSetBad n r) args = none ↔ ∀ b ∈ args, ¬ bench.nodeRefuses n r b.key) ∧
    (∀ l r args, stateFault (bench.loopSetBad l r) args = none ↔ ∀ b ∈ args, ¬ bench.loopRefuses l r b.key) ∧
    (let args := [kv "node" "N9", kv "role" "SENSOR", kv "channels" "3"]
     setFault [nodeKey] nodeCols .default args = none ∧ nodeArg args = some 8 ∧
     (applyArgs nodeCols args bench.cfg.nodes[(8 : NodeId)]).role = .sensor ∧ bench.mayWrite nodeCols args ∧
     stateFault (bench.nodeSetBad 8 (applyArgs nodeCols args bench.cfg.nodes[(8 : NodeId)])) args = none ∧
     applyArgs nodeCols args bench.cfg.nodes[(8 : NodeId)] ≠ bench.cfg.nodes[(8 : NodeId)] ∧
     said (exec (.nodeSet args) bench) = [.reply "NODE_SET" .ok [] none]) ∧
    (let args := [kv "node" "N1"]
     let s := bench.modNode 0 fun e => { e with state := .wrongRole, miss := 2 }
     setFault [nodeKey] nodeCols .default args = none ∧ applyArgs nodeCols args s.cfg.nodes[(0 : NodeId)] = s.cfg.nodes[(0 : NodeId)] ∧
     ((after (exec (.nodeSet args) s)).nodes[(0 : NodeId)]).state = .unseen ∧
     (after (exec (.nodeSet args) bench)).nodes = bench.nodes) ∧
    (let args := [kv "loop" "L0", kv "watch_margin" "4.0", kv "flow_src" "P0"]
     setFault [loopKey] loopCols .default args = none ∧ loopArg args = some 0 ∧
     (applyArgs loopCols args bench.cfg.loops[(0 : LoopId)]).tripMargin = 30 ∧
     (applyArgs loopCols args bench.cfg.loops[(0 : LoopId)]).watchMargin = 40 ∧ bench.mayWrite loopCols args ∧
     stateFault (bench.loopSetBad 0 (applyArgs loopCols args bench.cfg.loops[(0 : LoopId)])) args = none ∧
     said (exec (.loopSet args) bench) = [.reply "LOOP_SET" .ok [] none]) :=
  ⟨ready_bench, fun _ _ _ => stateFault_none_iff (nodeSetBad_iff _ _ _) _, fun _ _ _ => stateFault_none_iff (loopSetBad_iff _ _ _) _,
    by decide +kernel⟩

/-- R7 at once: new frost limits make C0, read at -16.0, TRIP; new fan_step, rotate_interval and kw_concurrency act too. -/
theorem witness_loop_writes_act_at_once :
    let s := { (lawfulPlant.modCfg fun g => { g with coils := g.coils.set 0 { g.coils[(0 : CoilId)] with outletPt := some ⟨0, 0⟩ } }).modPoint
      0 0 (fun _ => ⟨some (-160), some 9, .fresh⟩) with frost := lawfulPlant.frost.set 0 ⟨.watch, some (-160), 5, .reading⟩ }
    let args := [kv "loop" "L0", kv "freeze" "-19.0", kv "fan_step" "6", kv "rotate_interval" "7200", kv "kw_concurrency" "1"]
    let r := applyArgs loopCols args s.cfg.loops[(0 : LoopId)]
    let t := after (exec (.loopSet args) s)
    setFault [loopKey] loopCols .default args = none ∧ r.tripMargin ≤ r.watchMargin - 10 ∧ s.mayWrite loopCols args ∧
    stateFault (s.loopSetBad 0 r) args = none ∧ reachable s = true ∧
    s.freshAt (s.cfg.coils[(0 : CoilId)]).outletPt = some (-160) ∧ s.freshAt (s.cfg.coils[(1 : CoilId)]).outletPt = none ∧
    said (exec (.loopSet args) s) = [.reply "LOOP_SET" .ok [] none] ∧ (t.frost[(0 : CoilId)]).state = .trip ∧
    (t.coils[(0 : CoilId)]).desiredFan = t.fanDemand 0 ∧ (t.units[(0 : LoopId)]).rotation = .running 7200 ∧
    (t.units[(0 : LoopId)]).kwQueue = [] := by decide +kernel

/-- A coil unassigned leaves its roster; assigned to another loop it joins the end of that one (R9). -/
theorem witness_coil_writes :
    Ready bench ∧ AllReachable bench ∧
    (∀ c r args, stateFault (bench.coilSetBad c r) args = none ↔ ∀ b ∈ args, ¬ bench.coilRefuses c r b.key) ∧
    (let args := [kv "coil" "C0", kv "loop" "none"]
     let r := applyArgs coilCols args bench.cfg.coils[(0 : CoilId)]
     setFault [coilKey] coilCols .default args = none ∧ coilArg args = some 0 ∧ coilCross r args = none ∧
     bench.mayWrite coilCols args ∧ stateFault (bench.coilSetBad 0 r) args = none ∧
     r.loop ≠ (bench.cfg.coils[(0 : CoilId)]).loop ∧ (after (exec (.coilSet args) bench)).cfg.rosters[(0 : LoopId)] = [1]) ∧
    (let args := [kv "coil" "C0", kv "loop" "L3"]
     let s := bench.modCfg fun g => { g with loops := g.loops.set 3 { LoopRec.default with inUse := true } }
     let r := applyArgs coilCols args s.cfg.coils[(0 : CoilId)]
     coilCross r args = none ∧ stateFault (s.coilSetBad 0 r) args = none ∧ reachable s = true ∧
     (after (exec (.coilSet args) s)).cfg.rosters[(3 : LoopId)] = [0]) :=
  ⟨ready_bench, allReachable_of (by decide +kernel), fun _ _ _ => stateFault_none_iff (coilSetBad_iff _ _ _) _, by decide +kernel⟩

/-- A changed outlet point classifies the coil afresh: by its value where it is FRESH, and UNKNOWN without one (R114). -/
theorem witness_coil_write_classifies :
    let s := bench.modPoint 3 0 fun _ => ⟨some (-225), some 9, .fresh⟩
    let fresh := [kv "coil" "C0", kv "outlet_pt" "N4.0"]
    let gone := [kv "coil" "C0", kv "outlet_pt" "none"]
    setFault [coilKey] coilCols .default fresh = none ∧ setFault [coilKey] coilCols .default gone = none ∧
    stateFault (s.coilSetBad 0 (applyArgs coilCols fresh s.cfg.coils[(0 : CoilId)])) fresh = none ∧
    ((after (exec (.coilSet fresh) s)).frost[(0 : CoilId)]).state = .trip ∧
    ((after (exec (.coilSet gone) s)).frost[(0 : CoilId)]).state = .unknown := by decide +kernel

theorem witness_ModeSetAndResetAreChecked :
    Ready plant ∧ Ready bench ∧ plant.mode = .run ∧ bench.mode = .commission ∧ plant.inputs.svc.debounced = false ∧
    plantLocked.inputs.svc.debounced = true ∧
    said (exec (.modeSetCommission []) plantLocked) = [.reply "MODE_SET" .refused [("why", .word "TIER")] none] ∧
    said (exec (.resetErase []) plantLocked) = [.reply "RESET" .refused [("why", .word "TIER")] none] ∧
    (after (exec (.resetErase []) plant)).link.resetPending = some .erase :=
  ⟨ready_plant, ready_bench, by decide +kernel⟩

theorem witness_CommissionStopsThePlant :
    Ready plant ∧ plant.mode = .run ∧ plant.inputs.svc.debounced = false ∧
    ((after (exec (.modeSetCommission []) plant)).loops[(0 : LoopId)]).state = .idle ∧
    ((after (exec (.modeSetCommission []) plant)).coils[(0 : CoilId)]).service = .dormant := ⟨ready_plant, by decide +kernel⟩

/-- L0 passes its start check and starts; L1 in use without bindings fails with every item (R12). -/
theorem witness_RunStartsThePassingLoops :
    let s := bench.modCfg fun g => { g with loops := g.loops.set 1 { LoopRec.default with inUse := true } }
    Ready s ∧ s.mode = .commission ∧ s.startCheck 0 = [] ∧ s.startCheck 1 = [.pumpA, .pumpB, .bypass, .supply, .coils] ∧
    (s.cfg.loops[(2 : LoopId)]).inUse = false ∧ (s.loops[(1 : LoopId)]).state = .idle ∧
    said (exec (.modeSetRun []) s) =
      [.reply "MODE_SET" .ok [("started", .words ["L0"]), ("failed", .words ["L1"])] none] ∧
    ((after (exec (.modeSetRun []) s)).loops[(0 : LoopId)]).state = .starting :=
  ⟨ready_of_free (by decide +kernel), by decide +kernel⟩

/-- L0 starts with the roles swapped where pump A is FAULTED, and RUNNING at once where its duty pump turns already. -/
theorem witness_the_regulator_starts :
    let faulted := bench.modLoop 0 fun x => { x with pumpA := ⟨true, false, false⟩, fanStep := 7, bypass := 30, blind := true }
    let turning := bench.modPoint 0 1 fun _ => ⟨some 1, some 0, .fresh⟩
    let started := fun s : State => after (exec (.modeSetRun []) s)
    let loop := fun s : State => (started s).loops[(0 : LoopId)]
    Ready faulted ∧ ModeLaw faulted ∧ RosterLaw faulted.cfg ∧ BindingLaw faulted.cfg ∧ AllReachable faulted ∧ faulted.startCheck 0 = [] ∧
    Ready turning ∧ AllReachable turning ∧ turning.proved 0 .a = true ∧ faulted.proved 0 .b = false ∧
    loop faulted = { LoopSt.cold0 with state := .starting, duty := .b, pumpA := ⟨true, false, false⟩, pumpB := ⟨false, true, false⟩,
                                       holdoff := .running 300, tick := .running 10, proof := .running 30 } ∧
    (∀ e ∈ [⟨1, 1, 0⟩, ⟨0, 0, 0⟩, ⟨2, 100, 0⟩], e ∈ (started faulted).bus.routine) ∧
    (loop turning).state = .running ∧ (loop turning).proof = .stopped :=
  ⟨ready_of_free (by decide +kernel), by unfold ModeLaw; decide +kernel, rosterLaw_cfg0, bindingLaw_cfg0,
    allReachable_of (by decide +kernel), by decide +kernel, ready_of_free (by decide +kernel), allReachable_of (by decide +kernel), by decide +kernel⟩

/-- In the loop that starts: C0 reads 90 and SERVES, C1 reads 89 and is ISOLATED; withdrawn it is OUT, with its fan node OFFLINE it is
FAULTED.
C2, in a loop not in use, is ISOLATED; C15, in none, OUT. -/
theorem witness_coils_take_their_places :
    let opened := fun (v : Int) (n : NodeId) (s : State) => s.modPoint n 1 fun _ => ⟨some v, some 9, .fresh⟩
    let s := opened 90 5 (opened 89 7 (bench.modCfg fun g =>
      { g with coils := g.coils.set 2 { CoilRec.default with loop := some 3 }, rosters := g.rosters.set 3 [2] }))
    let out := s.modCfg fun g => { g with coils := g.coils.set 1 { g.coils[(1 : CoilId)] with withdrawn := true } }
    let dead := s.modNode 6 fun e => { e with state := .offline }
    let at_ := fun (u : State) (c : CoilId) => ((after (exec (.modeSetRun []) u)).coils[c]).service
    RosterLaw s.cfg ∧ BindingLaw s.cfg ∧ ModeLaw s ∧ Ready s ∧ Ready out ∧ Ready dead ∧ s.startCheck 0 = [] ∧
    at_ s 0 = .serving ∧ at_ s 1 = .isolated ∧ at_ out 1 = .out ∧ at_ dead 1 = .faulted .node ∧ at_ s 2 = .isolated ∧ at_ s 15 = .out ∧
    ((after (exec (.modeSetRun []) s)).coils[(1 : CoilId)]).kwTimer = .running 3600 ∧
    ((after (exec (.modeSetRun []) s)).coils[(0 : CoilId)]).desiredValve = some 100 :=
  ⟨by unfold RosterLaw; decide +kernel,
    ⟨by decide +kernel,
      by
        intro o
        cases o with
        | coilFan c => revert c; decide +kernel
        | coilValve c => revert c; decide +kernel
        | pump l p => cases p <;> revert l <;> decide +kernel
        | bypass l => revert l; decide +kernel,
      by decide +kernel⟩,
    by unfold ModeLaw; decide +kernel, ready_of_free (by decide +kernel), ready_of_free (by decide +kernel),
    ready_of_free (by decide +kernel), by decide +kernel⟩

theorem witness_StoreSaveStartsASave :
    let saving : State := { plant with store := { plant.store with saving := some { settings := plant.cfg, identity := none } } }
    Ready plant ∧ plant.store.saving = none ∧ Ready saving ∧ saving.store.saving.isSome = true ∧
    said (exec (.storeSave []) saving) = [.reply "STORE_SAVE" .busy [] none] ∧
    (after (exec (.storeSave []) plant)).cfg.site.autorun = true :=
  ⟨ready_plant, by decide +kernel, ready_of_free (by decide +kernel), by decide +kernel⟩

theorem witness_IdentityIsSavedAndSavesComplete :
    let args := [kv "site" "Roof-7", kv "cabinet" "999"]
    Ready plant ∧ badArgOrdered identityKeys args = none ∧ argOf args "site" = some "Roof-7" ∧
    (argOf args "cabinet").bind readInt = some 999 ∧ plant.identity.set = false ∧ plant.store.saving = none ∧
    (let s := after (exec (.identitySet args) plant)
     s.store.saving = some { settings := s.cfg, identity := some ⟨"Roof-7", some 999⟩ } ∧ s.bus.lost = [] ∧
     (after (exec (.saveComplete true true) s)).identity = { data := ⟨"Roof-7", some 999⟩, set := true } ∧
     (after (exec (.saveComplete false false) s)).store = { settings := .invalid, identity := .invalid, saving := none }) ∧
    (let s := after (exec (.storeSave []) plant)
     s.store.saving = some { settings := s.cfg, identity := none } ∧
     (after (exec (.saveComplete true false) s)).store.settings = .valid s.cfg) :=
  ⟨ready_plant, by decide +kernel⟩

theorem witness_a_reset_waits_for_its_reply :
    plant.bus.lost = [] ∧ plant.link.resetPending ≠ some .warm ∧ plant.link.resetPending ≠ some .cold ∧
    plant.link.resetPending ≠ some .erase ∧ leaves (exec .warmReset plant) plant = true ∧ leaves (exec .coldStart plant) plant = true ∧
    leaves (exec .erase plant) plant = true ∧ (resetting .warm).link.resetPending = some .warm ∧
    (let t := after (exec .warmReset (resetting .warm))
     t.link.resetPending = none ∧ t.mode = .run ∧ t.trace.next = 2) ∧
    (let t := after (exec .erase (resetting .erase))
     t.link.resetPending = none ∧ t.mode = .commission ∧ t.store.settings = .blank) := by decide +kernel

/-- From a VALID image with autorun yes the part starts in RUN; from an INVALID one in COMMISSION, where round 0, with every node NONE, is
over at once (R20, R148). -/
theorem witness_StartsLoadTheImage :
    let g : Settings := { cfg0 with site := { cfg0.site with autorun := true } }
    let s : State := { resetting .cold with store := { plant.store with settings := .valid g } }
    s.store.settings = .valid g ∧ s.link.resetPending = some .cold ∧ (after (exec .coldStart s)).mode = .run ∧
    ((after (exec .coldStart s)).loops[(0 : LoopId)]).state = .starting ∧
    (after (exec .coldStart s)).bus.poller = ⟨0, .waiting, 0, 0⟩ ∧
    (let u : State := { resetting .cold with store := { plant.store with settings := .invalid } }
     u.store.settings = .invalid ∧ (after (exec .coldStart u)).cfg = .default ∧
     (after (exec .coldStart u)).bus.poller = ⟨1, .spacing 1, 0, 0⟩ ∧
     (after (exec (.powerOn ⟨false, true, 0x81, false, 0x21⟩) u)).link.rate = 115200) := by decide +kernel

/-- A start from a VALID image with autorun no is the whole state the manual gives; with yes, L0 starts and L1, which fails its check, does
not (R12, R20, R126, R165, R166, R172, R182). -/
theorem witness_starts_from_a_valid_image :
    let g := fun auto : Bool => { cfg0 with
      site := { cfg0.site with autorun := auto, busRate := 38400 }
      loops := cfg0.loops.set 1 { LoopRec.default with inUse := true }
      inputs := cfg0.inputs.set 0 { cfg0.inputs[(0 : InputId)] with role := .plantStop, activeHigh := true }
      chans := cfg0.chans.set 0 { ChanRec.default with mode := .count, edge := .rise } }
    let s := fun auto : Bool => { resetting .cold with store := { settings := .valid (g auto), identity := .valid ⟨"Roof", some 7⟩, saving := none } }
    let pins : PinLevels := ⟨true, false, 0x01, false, 0x01⟩
    let t := after (exec (.powerOn pins) (s false))
    let u := after (exec .coldStart (s true))
    let entries := fun t : State => t.trace.h0.entries.map fun e => (e.subj, e.body)
    (t.mode = .commission ∧ t.cfg = g false ∧ t.identity = ⟨⟨"Roof", some 7⟩, true⟩ ∧ t.summaries[(0 : LoopId)] = .guarded) ∧
    ((t.inputs.chans[(0 : ChanId)]).status = .silent ∧ (t.inputs.chans[(0 : ChanId)]).activeSince = some 0 ∧
      (t.inputs.chans[(1 : ChanId)]).status = .off ∧ t.inputs.plantStop = true ∧ t.inputs.snowWarn = false ∧
      t.inputs.svc = ⟨false, false, none⟩) ∧
    (t.trace = State.reset.trace ∧ t.bus.urgent = [] ∧ t.bus.routine = [] ∧ t.bus.rate = 38400 ∧ t.link.rate = 57600) ∧
    (u.mode = .run ∧ (u.loops[(0 : LoopId)]).state = .starting ∧ (u.loops[(1 : LoopId)]).configFault = true ∧
      (u.coils[(0 : CoilId)]).service = .isolated ∧ (u.coils[(15 : CoilId)]).service = .out ∧ u.bus.urgent = [] ∧
      u.notice = State.reset.notice ∧ u.link.rate = 19200) ∧
    (RosterLaw (g true) ∧ (entries u).drop 7 =
      [(.loop 0, .event .loop [("old", .word "IDLE"), ("new", .word "STARTING"), ("cause", .word "START")])]) :=
  ⟨by decide +kernel, by decide +kernel, by decide +kernel, by decide +kernel, rosterLaw_cfg0, by decide +kernel⟩

/-! ## Plans and the clock -/

/-- A segment of 10.0 for an hour, announced. -/
def seg : Segment := ⟨100, 5, 100, 0, 16, 60, 0, true⟩

/-- Slots 0 to 2 filled, the last of them with a target at the floor. -/
def ring : Vector (Option Segment) 8 :=
  ((Plan.blank.slots.set 0 (some seg)).set 1 (some seg)).set 2 (some { seg with target := 90 })

def planOf (st : PlanState) (cur last : SlotId) : Plan := { Plan.blank with slots := ring, state := st, cur := cur, last := last }

theorem ready_withPlan (p : Plan) : Ready (withPlan p) :=
  ⟨⟨ready_plant.reset, ready_plant.reply, ready_plant.slot⟩, ready_plant.lost⟩

theorem calm_withLoop (f : LoopSt → LoopSt) : Calm (withLoop f) := ⟨calm_plant.lost, calm_plant.all⟩

def putArgs : List Arg :=
  [kv "loop" "L0", kv "slot" "7", kv "target" "-10", kv "band" "5.0", kv "ceiling" "10", kv "min_coils" "16", kv "max_coils" "16",
   kv "duration" "1440"]

theorem witness_PlanPutFillsASlot :
    let g : Segment := ⟨-100, 50, 10, 16, 16, 1440, 0, false⟩
    Ready plant ∧ badArg planPutKeys putArgs = none ∧ loopArg putArgs = some 0 ∧ (argOf putArgs "slot").bind readSlot = some 7 ∧
    (argOf putArgs "target").bind readTemp = some g.target ∧ (argOf putArgs "band").bind readTemp = some g.band ∧
    (argOf putArgs "ceiling").bind readInt = some (g.ceiling : Int) ∧
    (argOf putArgs "min_coils").bind readInt = some (g.minCoils : Int) ∧
    (argOf putArgs "max_coils").bind readInt = some (g.maxCoils : Int) ∧
    (argOf putArgs "duration").bind readInt = some (g.duration : Int) ∧ argOf putArgs "ramp" = none ∧ argOf putArgs "notify" = none ∧
    (((after (exec (.planPut putArgs) plant)).plans[(0 : LoopId)]).slots)[(7 : SlotId)] = some g ∧
    said (exec (.planPut putArgs) (withPlan (planOf .paused 7 7))) = [.reply "PLAN_PUT" .refused [("why", .word "LIVE_SLOT")] none] :=
  ⟨ready_plant, by decide +kernel⟩

theorem witness_PlanCommitMovesLast :
    let upTo := fun v => [kv "loop" "L0", kv "last" v]
    let ends := fun s v => (after (exec (.planCommit (upTo v)) s)).plans[(0 : LoopId)]
    (∀ p, Ready (withPlan p)) ∧ badArg [loopKey, slotKey "last"] (upTo "1") = none ∧ loopArg (upTo "1") = some 0 ∧
    (argOf (upTo "1") "last").bind readSlot = some 1 ∧
    said (exec (.planCommit (upTo "1")) (withPlan (planOf .paused 0 1))) =
      [.reply "PLAN_COMMIT" .refused [("why", .word "LIVE_SLOT")] none] ∧
    said (exec (.planCommit (upTo "7")) (withPlan (planOf .empty 0 0))) =
      [.reply "PLAN_COMMIT" .refused [("why", .word "UNFILLED"), ("slot", .int 3)] none] ∧
    (let q := ends (withPlan (planOf .empty 0 0)) "2"; q.state = .paused ∧ q.last = 2 ∧ q.prep = 1 ∧ q.verdict = .pass) ∧
    (let q := ends (withPlan (planOf .holding 0 0)) "1"; q.state = .active ∧ q.cur = 1 ∧ q.verdict = .none) ∧
    (let q := ends (withPlan (planOf .holding 1 1)) "2"; q.state = .stopped ∧ q.cur = 1 ∧ q.verdict = .target) ∧
    (let q := ends (withPlan (planOf .active 1 1)) "2"; q.state = .active ∧ q.verdict = .target) :=
  ⟨ready_withPlan, by decide +kernel⟩

/-- C0 serves at step 12 of 5 %. A ceiling of 50 slows its fan from 60 at the advance or commit that brings it into force, with a ROUTINE
command, a ceiling of 70 gives it 60 back, as a cleared plan does; an end that stops the plan leaves it. -/
theorem witness_plan_ends_move_the_fans :
    let faned := fun (v : Int) (p : Plan) => ((withPlan p).modLoop 0 fun x => { x with fanStep := 12 }).modCoil 0 fun x => { x with desiredFan := v }
    let low := fun st cur last => ({ planOf st cur last with slots := ring.set 1 (some { seg with ceiling := 50 }), elapsed := 3600 } : Plan)
    let fan := fun t : State => ((t.coils[(0 : CoilId)]).desiredFan, (t.coils[(1 : CoilId)]).desiredFan, t.bus.routine)
    let name := [kv "loop" "L0"]
    (∀ v p, Ready (faned v p)) ∧ (∀ v p, AllReachable (faned v p)) ∧
    fan (after (exec (.segmentEnd 0) (faned 60 (low .active 0 1)))) = (50, 0, [⟨4, 50, 0⟩]) ∧
    fan (after (exec (.planSkip name) (faned 60 (low .paused 0 1)))) = (50, 0, [⟨4, 50, 0⟩]) ∧
    fan (after (exec (.planRun name) (faned 60 (low .stopped 0 1)))) = (50, 0, [⟨4, 50, 0⟩]) ∧
    fan (after (exec (.planCommit (name ++ [kv "last" "1"])) (faned 60 (low .holding 0 0)))) = (50, 0, [⟨4, 50, 0⟩]) ∧
    fan (after (exec (.planCommit (name ++ [kv "last" "1"])) (faned 60 (low .empty 1 1)))) = (50, 0, [⟨4, 50, 0⟩]) ∧
    fan (after (exec (.planClear name) (faned 50 (low .paused 1 1)))) = (60, 0, [⟨4, 60, 0⟩]) ∧
    fan (after (exec (.segmentEnd 0) (faned 60 (low .active 1 2)))) = (60, 0, []) :=
  ⟨fun _ _ => ⟨⟨ready_plant.reset, ready_plant.reply, ready_plant.slot⟩, ready_plant.lost⟩, fun _ _ => calm_plant.all, by decide +kernel⟩

theorem witness_plan_run_by_state :
    let run := fun st c l => exec (.planRun [kv "loop" "L0"]) (withPlan (planOf st c l))
    (∀ p, Ready (withPlan p)) ∧ plant.slotVerdict 0 (planOf .stopped 0 2) 1 = .pass ∧
    plant.slotVerdict 0 (planOf .stopped 1 2) 2 = .target ∧
    ((after (run .paused 0 2)).plans[(0 : LoopId)]).state = .active ∧
    (let t := after (run .stopped 0 2)
     (t.plans[(0 : LoopId)]).cur = 1 ∧ (t.plans[(0 : LoopId)]).state = .active ∧ t.notice.pending = [.plan]) ∧
    said (run .stopped 1 2) =
      [.reply "PLAN_RUN" .refused [("why", .word "PREPARE"), ("slot", .int 2), ("reason", .word "TARGET")] none] :=
  ⟨ready_withPlan, by decide +kernel⟩

theorem witness_plan_pause_and_clear :
    (∀ p, Ready (withPlan p)) ∧
    (let paused := fun n => (after (exec (.planPause [kv "loop" "L0"]) (withPlan { planOf .active 0 2 with elapsed := n }))).plans[(0 : LoopId)]
     paused 3599 = { planOf .paused 0 2 with elapsed := 3599 } ∧ paused 3600 = { planOf .paused 0 2 with elapsed := 3599 }) ∧
    said (exec (.planClear [kv "loop" "L0"]) (withPlan (planOf .active 0 2))) =
      [.reply "PLAN_CLEAR" .refused [("why", .word "STATE")] none] ∧
    (after (exec (.planClear [kv "loop" "L0"]) (withPlan (planOf .stopped 1 2)))).plans[(0 : LoopId)] = .blank :=
  ⟨ready_withPlan, by decide +kernel⟩

theorem witness_SegmentsEnd :
    let due := fun c l => withPlan { planOf .active c l with elapsed := 3600 }
    (∀ p, Ready (withPlan p)) ∧ leaves (exec (.segmentEnd 0) (withPlan { planOf .active 0 1 with elapsed := 3599 }))
      (withPlan { planOf .active 0 1 with elapsed := 3599 }) = true ∧
    (let t := after (exec (.segmentEnd 0) (due 1 1)); (t.plans[(0 : LoopId)]).state = .holding ∧ t.notice.pending = [.plan]) ∧
    (let t := after (exec (.segmentEnd 0) (due 0 1))
     (t.plans[(0 : LoopId)]).cur = 1 ∧ (t.plans[(0 : LoopId)]).elapsed = 0 ∧ t.notice.pending = [.plan]) ∧
    (let t := after (exec (.segmentEnd 0) (due 1 2)); (t.plans[(0 : LoopId)]).state = .stopped) ∧
    said (exec (.planSkip [kv "loop" "L0"]) (withPlan (planOf .holding 0 0))) =
      [.reply "PLAN_SKIP" .refused [("why", .word "STATE")] none] ∧
    (let t := after (exec (.planSkip [kv "loop" "L0"]) (withPlan (planOf .paused 0 1)))
     (t.plans[(0 : LoopId)]).cur = 1 ∧ (t.plans[(0 : LoopId)]).state = .paused) ∧
    (let t := after (exec (.planSkip [kv "loop" "L0"]) (withPlan (planOf .active 1 1))); (t.plans[(0 : LoopId)]).state = .holding) :=
  ⟨ready_withPlan, by decide +kernel⟩

/-- A queued and a granted command, an enabled notice and a plan at its segment's end: both queues empty without a COMMAND_LOST, the flight
lapsed, the MODE and LOOP entries alone, and the plan one second short of its end. -/
theorem witness_commission_drops_commands :
    let s := { (withPlan { planOf .active 0 1 with elapsed := 3600 }).modBus fun b =>
      { b with urgent := [⟨4, 20, 0⟩], flight := some ⟨.command .routine 1 false, .write, 5, 0, 100, 40⟩ } with
      notice := { plant.notice with enabled := [.mode] } }
    let u := s.modShadow 4 fun sh => { sh with state := .queued }
    let t := after (exec (.modeSetCommission []) u)
    Ready u ∧ u.mode = .run ∧ u.inputs.svc.debounced = false ∧ u.bus.queued 4 = true ∧
    t.bus.urgent = [] ∧ t.bus.flight = some ⟨.command .routine 1 true, .write, 5, 0, 100, 40⟩ ∧
    (t.nodes[(4 : NodeId)]).shadow.state = .settled ∧ t.notice = ⟨[.mode], [.mode], true⟩ ∧
    newEntries t = [.event .mode [("old", .word "RUN"), ("new", .word "COMMISSION")],
      .event .loop [("old", .word "RUNNING"), ("new", .word "IDLE"), ("cause", .word "MODE")]] ∧
    (t.plans[(0 : LoopId)]).state = .paused ∧ (t.plans[(0 : LoopId)]).elapsed = 3599 ∧ t.summaries[(0 : LoopId)] = .guarded :=
  ⟨ready_of_free (by decide +kernel), by decide +kernel⟩

/-- A pause between the second that reaches the duration and SEGMENT_END: the end waits until elapsed reaches it again after PLAN_RUN (R33). -/
theorem test_pause_taken_before_the_end :
    let does := fun (i : Instr) (s : State) => { after (exec i s) with link := plant.link }
    let plan := fun t : State => ((t.plans[(0 : LoopId)]).state, (t.plans[(0 : LoopId)]).cur, (t.plans[(0 : LoopId)]).elapsed)
    let name := [kv "loop" "L0"]
    let s := does (.planRun name) (does (.planPause name) (does .uptimeSecond (withPlan { planOf .active 0 1 with elapsed := 3599 })))
    plan s = (.active, 0, 3599) ∧ plan (does (.segmentEnd 0) s) = (.active, 0, 3599) ∧
    plan (does (.segmentEnd 0) (does .uptimeSecond s)) = (.active, 1, 0) := by decide +kernel

/-- SEGMENT with the slots and the cause of each end; PREPARE of a failing slot with its stage. -/
theorem witness_plan_entries :
    let writing := fun s : State => { s with trace := { s.trace with h0 := ⟨.filling, [], 1⟩, writer := .writing .h0 } }
    let traced := fun (c : Instr) (s : State) =>
      ((after (exec c (writing s))).trace.h0.entries.map TraceEntry.body, (after (exec c (writing s))).notice.pending)
    let segment := fun (i j : Int) (w : String) => TraceBody.event .segment [("slot", .int i), ("cur", .int j), ("cause", .word w)]
    let failed := fun (i : Int) (w : String) => TraceBody.event .prepare [("slot", .int i), ("reason", .word "TARGET"), ("stage", .word w)]
    let name := [kv "loop" "L0"]
    AllReachable plant ∧
    traced (.segmentEnd 0) (withPlan { planOf .active 0 1 with elapsed := 3600 }) = ([segment 0 1 "END"], [.plan]) ∧
    traced (.segmentEnd 0) (withPlan { planOf .active 0 2 with elapsed := 3600 }) = ([segment 0 1 "END", failed 2 "AHEAD"], [.plan]) ∧
    traced (.segmentEnd 0) (withPlan { planOf .active 1 2 with elapsed := 3600 }) = ([failed 2 "END"], [.plan]) ∧
    traced (.planSkip name) (withPlan (planOf .paused 0 1)) = ([segment 0 1 "SKIP"], [.plan]) ∧
    traced (.planRun name) (withPlan (planOf .stopped 0 1)) = ([segment 0 1 "RUN"], [.plan]) ∧
    traced (.planCommit (name ++ [kv "last" "1"])) (withPlan (planOf .holding 0 0)) = ([segment 0 1 "COMMIT"], []) ∧
    traced (.planCommit (name ++ [kv "last" "2"])) (withPlan (planOf .active 1 1)) = ([failed 2 "AHEAD"], [.plan]) :=
  ⟨calm_plant.all, by decide +kernel⟩

/-- The start of a ramp, one second before its end, and its end; falling and rising. -/
theorem witness_plan_values :
    let at_ := fun (start goal : Temp) (n : Nat) => ((withPlan { Plan.blank with
      slots := Plan.blank.slots.set 0 (some { seg with target := goal, ramp := 30 }), state := .active, elapsed := n,
      rampStart := some start }).effective 0).target
    at_ 120 80 0 = 120 ∧ at_ 120 80 1799 = 80 ∧ at_ 120 80 1800 = 80 ∧ at_ 80 120 0 = 80 ∧ at_ 80 120 600 = 94 ∧
    at_ 80 120 1799 = 120 ∧ at_ 80 80 7 = 80 ∧ (withPlan .blank).effective 0 = ⟨120, 5, 100, 0, 16, 0⟩ := by decide +kernel

theorem witness_SecondsPass :
    let s := (withPlan (planOf .holding 0 0)).modBus fun b =>
      { b with pass := .waiting ⟨.read, 0, 1, 0⟩ 2, line := .down 5, poller := ⟨3, .spacing 1, 0, 0⟩ }
    let t := after (exec .uptimeSecond s)
    s.bus.lost = [] ∧ t.uptime = 101 ∧ (t.plans[(0 : LoopId)]).elapsed = 1 ∧ t.bus.pass = .waiting ⟨.read, 0, 1, 0⟩ 1 ∧
    t.bus.line = .down 4 ∧ t.bus.poller = ⟨3, .spacing 0, 0, 0⟩ ∧
    ((after (exec .uptimeSecond (withPlan (planOf .paused 0 0)))).plans[(0 : LoopId)]).elapsed = 0 := by decide +kernel

/-! ## Loops and pumps -/

theorem witness_PumpClearAndPumpSwap :
    let broken := withLoop fun x => { x with pumpB := ⟨true, false, false⟩ }
    let turning := plant.modNode 1 fun e => { e with points := e.points.set 1 ⟨some 1, some 99, .fresh⟩ }
    Ready plant ∧ Ready broken ∧ Ready turning ∧ AllReachable plant ∧ AllReachable turning ∧
    readLoop "L8" = none ∧ ((broken.loops[(0 : LoopId)]).pump .b).faulted = true ∧
    ((after (exec (.pumpClear [kv "loop" "L0", kv "pump" "B"]) broken)).loops[(0 : LoopId)]).pumpB = ⟨false, false, false⟩ ∧
    said (exec (.pumpSwap [kv "loop" "L0"]) broken) = [.reply "PUMP_SWAP" .refused [("why", .word "STATE")] none] ∧
    plant.pumpStatus 0 .b ≠ some 1 ∧ turning.pumpStatus 0 .b = some 1 ∧ turning.flowTest 0 ≠ some false ∧
    ((after (exec (.pumpSwap [kv "loop" "L0"]) plant)).loops[(0 : LoopId)]).proof = .running 30 ∧
    ((after (exec (.pumpSwap [kv "loop" "L0"]) turning)).loops[(0 : LoopId)]).duty = .b :=
  ⟨ready_plant, ready_of_free (by decide +kernel), ready_of_free (by decide +kernel), allReachable_of (by decide +kernel),
    allReachable_of (by decide +kernel), by decide +kernel⟩

theorem witness_PumpFaults :
    let starting := withLoop fun x => { x with state := .starting, proof := .running 0 }
    let failing := fun r => withLoop fun x => { x with state := .failover, reason := some r, proof := .running 0 }
    let low := withLoop fun x => { x with lowflow := .running 0, pumpB := ⟨true, false, false⟩ }
    (∀ f, Calm (withLoop f)) ∧ starting.proved 0 .b = false ∧
    ((after (exec (.proofTimeout 0) starting)).loops[(0 : LoopId)]).reason = some .fault ∧
    ((after (exec (.lowflowExpiry 0) low)).loops[(0 : LoopId)]).state = .flowloss ∧
    (let turns := fun s : State => s.modNode 1 fun e => { e with points := e.points.set 1 ⟨some 1, some 99, .fresh⟩ }
     let lows := turns (withLoop fun x => { x with lowflow := .running 0 })
     let left : LoopSt → Bool := fun z => z.state = .running && z.duty = .b && z.pumpA = ⟨true, false, false⟩ && z.pumpB = ⟨false, true, false⟩
     Calm (turns starting) ∧ Calm lows ∧ (turns starting).proved 0 .b = true ∧ lows.proved 0 .b = true ∧
     left (after (exec (.proofTimeout 0) (turns starting))).loops[(0 : LoopId)] = true ∧
     left (after (exec (.lowflowExpiry 0) lows)).loops[(0 : LoopId)] = true ∧
     (after (exec (.lowflowExpiry 0) lows)).notice.pending = [.pump]) ∧
    ((after (exec (.proofTimeout 0) (failing .fault))).loops[(0 : LoopId)]).state = .flowloss ∧
    ((after (exec (.proofTimeout 0) (failing .planned))).loops[(0 : LoopId)]).state = .running ∧
    ((after (exec (.proofTimeout 0) (failing .planned))).loops[(0 : LoopId)]).pumpB = ⟨true, false, false⟩ :=
  ⟨calm_withLoop, by decide +kernel, by decide +kernel, by decide +kernel,
    ⟨calm_of (by decide +kernel), calm_of (by decide +kernel), by decide +kernel⟩, by decide +kernel⟩

theorem witness_EndOfAFlowLoss :
    let lost := withLoop fun x =>
      { x with state := .flowloss, proof := .running 0, pumpA := ⟨true, true, false⟩, pumpB := ⟨true, true, false⟩ }
    let turning := lost.modNode 1 fun e => { e with points := e.points.set 1 ⟨some 1, some 99, .fresh⟩ }
    Calm lost ∧ Calm turning ∧ lost.pumpStatus 0 .a ≠ some 1 ∧ lost.pumpStatus 0 .b ≠ some 1 ∧ turning.pumpStatus 0 .b = some 1 ∧
    ((after (exec (.flowlossEnd 0) lost)).loops[(0 : LoopId)]).duty = .a ∧
    ((after (exec (.flowlossEnd 0) turning)).loops[(0 : LoopId)]).duty = .b ∧
    ((after (exec (.flowlossEnd 0) turning)).loops[(0 : LoopId)]).pumpB = ⟨false, true, false⟩ :=
  ⟨calm_withLoop _, calm_of (by decide +kernel), by decide +kernel⟩

/-- P0 in a mode, with its measurement. -/
def measuring (m : ChanMode) (scale : Nat) (f : Chan → Chan) : State :=
  (plant.modCfg fun g => { g with chans := g.chans.set 0 { ChanRec.default with mode := m, scale := scale } }).modChan 0 fun x =>
    f { x with status := .valid, value := some 7, gateStart := 99, lastEdge := some 99500000 }

/-- L0 of the plant with a flow meter on N9, its one point at v, and min_flow 4.0. -/
def metered (v : Int) (f : LoopSt → LoopSt) : State :=
  ((withLoop f).modCfg fun g =>
    { g with nodes := g.nodes.set 8 ⟨.sensor, 1⟩
             loops := g.loops.set 0 { g.loops[(0 : LoopId)] with flowSrc := some (.point ⟨8, 0⟩), minFlow := 40 } }).modPoint 8 0 fun _ =>
      ⟨some v, some 99, .fresh⟩

/-- A pump's status point at v, read so long ago that it grows STALE. -/
def statusAt (n : NodeId) (v : Int) (s : State) : State := s.modPoint n 1 fun _ => ⟨some v, some 50, .fresh⟩

/-- A reading of the pump's status takes the loop on in each state; so does a reading, a tick or a gate of the flow meter. -/
theorem witness_FlowIsProved :
    let starting := fun x : LoopSt => { x with state := .starting, proof := .running 9 }
    let proving := fun (r : FailReason) (x : LoopSt) => { x with state := .failover, reason := some r, proof := .running 9 }
    let lost := fun (k : Timer) (x : LoopSt) => { x with state := .flowloss, proof := k, pumpB := ⟨false, true, false⟩ }
    let loop := fun t : State => t.loops[(0 : LoopId)]
    (∀ f, Calm (withLoop f)) ∧ Calm (metered 40 starting) ∧ pumpOnly plant.cfg 0 ∧ pumpOnly plant.cfg 1 ∧
    soleUse (metered 40 starting).cfg 8 0 ∧
    (∀ f, (reading 1 1 1 (withLoop f)).1.readBy (reading 1 1 1 (withLoop f)).2 1 1 1) ∧
    (loop (afterReading 0 1 1 (withLoop starting))).state = .running ∧ (loop (afterReading 0 1 0 (withLoop starting))).proof = .running 9 ∧
    (loop (afterReading 1 1 1 (withLoop (proving .fault)))).duty = .b ∧
    (loop (afterReading 1 1 1 (withLoop (proving .planned)))).pumpA = ⟨false, false, false⟩ ∧
    (loop (afterReading 1 1 1 (metered 39 (proving .planned)))).state = .failover ∧
    (loop (afterReading 1 1 1 (withLoop (lost .stopped)))).proof = .running 30 ∧
    (loop (afterReading 0 1 0 (statusAt 0 1 (withLoop (lost (.running 4)))))).proof = .stopped ∧
    (loop (after (exec (.pointStale 0 1) (statusAt 0 1 (withLoop (lost (.running 4))))))).proof = .stopped ∧
    (loop (afterReading 8 0 40 (metered 39 starting))).state = .running ∧
    (loop (after (exec (.loopTick 0) (metered 39 id)))).lowflow = .running 15 ∧
    (loop (after (exec (.loopTick 0) (metered 40 fun x => { x with lowflow := .running 3 })))).lowflow = .stopped ∧
    (loop (after (exec (.pointStale 8 0) ((metered 39 fun x => { x with lowflow := .running 3 }).modPoint 8 0 fun p =>
      { p with readAt := some 50 })))).lowflow = .stopped ∧
    (let gated := ((measuring .count 10 fun x => { x with count := 40 }).modLoop 0 starting).modCfg fun g =>
       { g with loops := g.loops.set 0 { g.loops[(0 : LoopId)] with flowSrc := some (.pulse 0), minFlow := 40 } }
     (loop (after (exec (.gateEnd 0) gated))).state = .running) :=
  ⟨calm_withLoop, calm_of (by decide +kernel), ⟨by decide +kernel, by decide +kernel, by decide +kernel⟩,
    ⟨by decide +kernel, by decide +kernel, by decide +kernel⟩, by unfold soleUse; decide +kernel,
    fun f => readBy_reading 1 1 1 _ (by decide +kernel) (by show (plant.nodes[(1 : NodeId)]).state = .online; decide +kernel),
    by decide +kernel⟩

/-- A reading of FAULT: of the standby in RUNNING, in FLOWLOSS, and of the old duty pump in a planned failover. -/
theorem witness_pump_fault_readings :
    let planned := withLoop fun x =>
      { x with state := .failover, reason := some .planned, proof := .running 9, pumpB := ⟨false, true, false⟩ }
    let loop := fun t : State => t.loops[(0 : LoopId)]
    Calm planned ∧ BindingLaw planned.cfg ∧ pumpOnly planned.cfg 0 ∧ (planned.cfg.loops[(0 : LoopId)]).pumpNode .a = some 0 ∧
    (reading 0 1 3 planned).1.readBy (reading 0 1 3 planned).2 0 1 3 ∧
    (let t := afterReading 0 1 3 planned
     (loop t).reason = some .fault ∧ (loop t).proof = .running 9 ∧ (loop t).pumpA = ⟨true, false, false⟩ ∧
     t.bus.urgent = [⟨1, 1, 0⟩] ∧ t.bus.routine = [⟨0, 0, 0⟩] ∧ t.notice.pending = [.pump]) ∧
    (loop (afterReading 0 1 3 (planned.modPoint 1 1 fun _ => ⟨some 1, some 99, .fresh⟩))).duty = .b ∧
    (loop (afterReading 1 1 3 plant)).state = .running ∧ (loop (afterReading 1 1 3 plant)).pumpB = ⟨true, false, false⟩ ∧
    (loop (afterReading 0 1 3 (withLoop fun x => { x with state := .flowloss }))).pumpA = ⟨true, true, false⟩ :=
  ⟨calm_withLoop _, bindingLaw_cfg0, ⟨by decide +kernel, by decide +kernel, by decide +kernel⟩, by decide +kernel,
    readBy_reading 0 1 3 _ (by decide +kernel) (by decide +kernel), by decide +kernel⟩

/-! ### What changes of loop state do to the coils -/

/-- The records of the plant with ten coils in L0, coil k with its fan at N(5 + 2k) and its valve at N(6 + 2k). -/
def cfgTen : Settings :=
  { cfg0 with
    nodes := Vector.ofFn fun n : NodeId => if n.val < 4 then cfg0.nodes[n] else if n.val % 2 = 0 then ⟨.fan, 1⟩ else ⟨.valve, 1⟩
    coils := Vector.ofFn fun c : CoilId =>
      if h : c.val < 10 then { CoilRec.default with loop := some 0, fanNode := some ⟨4 + 2 * c.val, by omega⟩,
                                                    valveNode := some ⟨5 + 2 * c.val, by omega⟩, options := ⟨true, true, true⟩ }
      else CoilRec.default
    rosters := (Vector.replicate 4 []).set 0 (allCoils.take 10) }

/-- C0 SHEDDING with the permit, C1 ADMITTING in its dwell, C2 and C3 waiting for a cycle, C4 in a rundown that waits, C5 in a SCHEDULED and
C6 in an EMERGENCY cycle, C7 SERVING, C8 OUT, C9 FAULTED; and L0 so. -/
def tenCoils (held : Bool) (f : LoopSt → LoopSt) : State :=
  let x : CoilSt := { CoilSt.cold0 with frostGiven := .clear, desiredValve := some 0, settled := true }
  let of : List CoilSt :=
    [{ x with service := .shedding, shed := .running 50, desiredFan := -60, desiredValve := some 100 },
     { x with service := .admitting 2 true held, admitTotal := 4, dwell := if held then .paused 40 else .running 40,
              admission := .running 900, admitRef := some 120 },
     { x with service := .isolated }, { x with service := .isolated },
     { x with service := .retiring .rundown true, rundown := .expiredWaiting, desiredValve := some 100 },
     { x with service := .keepwarm .scheduled, kwDwell := .running 20, desiredValve := some 15 },
     { x with service := .keepwarm .emergency, kwDwell := .running 20, desiredValve := some 15 },
     { x with service := .serving, desiredFan := 30, desiredValve := some 100 },
     { x with service := .out }, { x with service := .faulted .stroke }]
  { (withLoop f).modUnit 0 fun u => { u with permit := some 0, kwQueue := [2, 3], kwCount := 1, shedQueue := [7] } with
    cfg := cfgTen
    coils := Vector.ofFn fun c : CoilId => of.getD c.val CoilSt.cold0 }

theorem calm_tenCoils (held : Bool) (f : LoopSt → LoopSt) : Calm (tenCoils held f) := ⟨calm_plant.lost, calm_plant.all⟩

theorem loopCoilLaw_tenCoils (f : LoopSt → LoopSt) : LoopCoilLaw (tenCoils false f) 0 where
  admitting := by show (tenCoils false id).admittingCount 0 ≤ 1; decide +kernel
  queued := by
    show ∀ c ∈ ((tenCoils false id).units[(0 : LoopId)]).kwQueue,
      (cfgTen.coils[c]).loop = some 0 ∧ ((tenCoils false id).coils[c]).service = .isolated
    decide +kernel
  once := by show (((tenCoils false id).units[(0 : LoopId)]).kwQueue).Nodup; decide +kernel
  cycles := by
    show (tenCoils false id).countCoils 0 (fun x => x = .keepwarm .scheduled) = ((tenCoils false id).units[(0 : LoopId)]).kwCount
    decide +kernel
  room := by show ((tenCoils false id).units[(0 : LoopId)]).kwCount ≤ (cfgTen.loops[(0 : LoopId)]).kwConcurrency; decide +kernel
  shedding := by
    show ∀ c : CoilId, (cfgTen.coils[c]).loop = some 0 → ((tenCoils false id).coils[c]).service = .shedding →
      ((tenCoils false id).units[(0 : LoopId)]).permit = some c
    decide +kernel
  shedders := by
    show ∀ c ∈ ((tenCoils false id).units[(0 : LoopId)]).shedQueue, (cfgTen.coils[c]).loop = some 0
    decide +kernel

def decideFanSent (s t : State) (c : CoilId) : Decidable (s.fanSent t c) := by unfold State.fanSent; infer_instance

def decideFollow (s t : State) (l : LoopId) (f r : Bool) : Decidable (s.coilsFollow t l f r) := by
  have := decideFanSent s t
  unfold State.coilsFollow State.kwServed; dsimp only; infer_instance

set_option synthInstance.maxSize 2000 in
set_option synthInstance.maxHeartbeats 200000 in
def decideFlowloss (s t : State) (l : LoopId) : Decidable (s.coilsAtFlowloss t l) := by
  unfold State.coilsAtFlowloss; dsimp only; infer_instance

/-- The command takes L0 to this state, and its coils follow. -/
def follows (s : State) (i : Instr) (st : LoopState) (failover running : Bool) : Bool :=
  let t := after (exec i s)
  (t.loops[(0 : LoopId)]).state = st && @decide _ (decideFollow s t 0 failover running)

/-- The command takes L0 to FLOWLOSS, and its coils are left as that leaves them. -/
def loses (s : State) (i : Instr) : Bool :=
  let t := after (exec i s)
  (t.loops[(0 : LoopId)]).state = .flowloss && @decide _ (decideFlowloss s t 0)

theorem coils_follow {s : State} {i : Instr} {st : LoopState} {f r : Bool} (h : follows s i st f r = true) :
    s.coilsFollow (after (exec i s)) 0 f r := by
  unfold follows at h
  rw [Bool.and_eq_true] at h
  exact @of_decide_eq_true _ (decideFollow _ _ _ _ _) h.2

theorem coils_at_flowloss {s : State} {i : Instr} (h : loses s i = true) : s.coilsAtFlowloss (after (exec i s)) 0 := by
  unfold loses at h
  rw [Bool.and_eq_true] at h
  exact @of_decide_eq_true _ (decideFlowloss _ _ _) h.2

/-- Expiries take L0, with ten coils in it, to FAILOVER, through FAILOVER to RUNNING, to FLOWLOSS, and back to RUNNING (R93, R96, R99, R100,
R104). -/
theorem witness_loop_changes_move_the_coils :
    let low := fun x : LoopSt => { x with lowflow := .running 0 }
    let starting := fun x : LoopSt => { x with state := .starting, proof := .running 0 }
    let bad := fun x : LoopSt => { x with pumpB := ⟨true, false, false⟩ }
    let proving := fun r (x : LoopSt) => { x with state := .failover, reason := some r, proof := .running 0 }
    let lost := fun x : LoopSt => { x with state := .flowloss, proof := .running 0 }
    let turns := statusAt 1 1
    (∀ held f, Calm (tenCoils held f)) ∧ (∀ f, LoopCoilLaw (tenCoils false f) 0) ∧
    follows (tenCoils false low) (.lowflowExpiry 0) .failover true false = true ∧
    follows (tenCoils true starting) (.proofTimeout 0) .failover true false = true ∧
    follows (turns (tenCoils false low)) (.lowflowExpiry 0) .running true true = true ∧
    follows (turns (tenCoils true low)) (.lowflowExpiry 0) .running true true = true ∧
    loses (tenCoils false fun x => bad (low x)) (.lowflowExpiry 0) = true ∧
    loses (tenCoils true fun x => bad (starting x)) (.proofTimeout 0) = true ∧
    loses (tenCoils false (proving .fault)) (.proofTimeout 0) = true ∧
    follows (tenCoils false (proving .planned)) (.proofTimeout 0) .running false true = true ∧
    follows (tenCoils false lost) (.flowlossEnd 0) .running false true = true := by
  refine ⟨calm_tenCoils, loopCoilLaw_tenCoils, ?_⟩
  decide +kernel

/-- The same records in the spec's words: the admission's timers pause and resume, the waiting rundown closes, the cycles end. -/
theorem test_coils_of_a_loop_that_changes :
    let at_ := fun (t : State) (c : CoilId) => t.coils[c]
    let failed := after (exec (.lowflowExpiry 0) (tenCoils false fun x => { x with lowflow := .running 0 }))
    let gone := after (exec (.proofTimeout 0) (tenCoils false fun x =>
      { x with state := .starting, proof := .running 0, pumpB := ⟨true, false, false⟩ }))
    let back := after (exec (.flowlossEnd 0) (tenCoils false fun x => { x with state := .flowloss, proof := .running 0 }))
    ((at_ failed 0).service = .serving ∧ (at_ failed 0).cooldown = .running 3600 ∧ (failed.units[(0 : LoopId)]).permit = none) ∧
    ((at_ failed 1).dwell = .paused 40 ∧ (at_ failed 1).admission = .paused 900) ∧
    ((at_ failed 2).service = .keepwarm .scheduled ∧ (at_ failed 3).service = .isolated ∧ (failed.units[(0 : LoopId)]).kwQueue = [3]) ∧
    ((at_ gone 1).service = .isolated ∧ (at_ gone 5).service = .isolated ∧ (at_ gone 6).service = .isolated) ∧
    ((at_ gone 2).kwTimer = .running 3600 ∧ (gone.units[(0 : LoopId)]).kwCount = 0 ∧ (at_ gone 7).desiredFan = 0) ∧
    ((at_ gone 4).rundown = .expiredWaiting ∧ (at_ back 4).service = .retiring .closing true ∧ ⟨13, 0, 0⟩ ∈ back.bus.routine) := by
  decide +kernel

/-- A reading of FAULT from a pump of L0 with its ten coils: the duty pump's in STARTING and RUNNING, with a SOUND and a FAULTED standby, and
the candidate's in a failover of either reason; and readings that prove flow (R52, R53, R56, R57). -/
theorem witness_pump_faults_by_reading :
    let starting := fun x : LoopSt => { x with state := .starting, proof := .running 9 }
    let bad := fun x : LoopSt => { x with pumpB := ⟨true, false, false⟩ }
    let proving := fun r (x : LoopSt) => { x with state := .failover, reason := some r, proof := .running 9, pumpB := ⟨false, true, false⟩ }
    let read := fun (n : NodeId) (f : LoopSt → LoopSt) => (reading n 1 3 (tenCoils false f)).1
    let i := fun n : NodeId => (reading n 1 3 plant).2
    let turning := statusAt 1 1 (read 0 id)
    let loop := fun t : State => t.loops[(0 : LoopId)]
    let t := fun (n : NodeId) (f : LoopSt → LoopSt) => after (exec (i n) (read n f))
    pumpOnly cfgTen 0 ∧ pumpOnly cfgTen 1 ∧ Calm (read 0 id) ∧ (read 0 id).readBy (i 0) 0 1 3 ∧ BindingLaw cfgTen ∧
    follows (read 0 id) (i 0) .failover true false = true ∧ follows (read 0 starting) (i 0) .failover true false = true ∧
    follows turning (i 0) .running true true = true ∧ loses (read 0 bad) (i 0) = true ∧
    loses (read 0 fun x => bad (starting x)) (i 0) = true ∧ loses (read 1 (proving .fault)) (i 1) = true ∧
    follows (read 1 (proving .planned)) (i 1) .running false true = true ∧
    follows (reading 0 1 1 (tenCoils false starting)).1 (reading 0 1 1 plant).2 .running false true = true ∧
    follows (reading 1 1 1 (tenCoils false (proving .planned))).1 (reading 1 1 1 plant).2 .running false true = true ∧
    follows (statusAt 1 1 (read 0 (proving .planned))) (i 0) .running false true = true ∧
    ⟨1, 0, 0⟩ ∈ (t 1 (proving .planned)).bus.routine ∧
    (loop (t 0 id)).pumpA = ⟨true, false, false⟩ ∧ (t 0 id).bus.urgent = [⟨1, 1, 0⟩] ∧ ⟨0, 0, 0⟩ ∈ (t 0 id).bus.routine ∧
    (loop (t 0 bad)).proof = .stopped ∧ (t 0 bad).bus.urgent.take 2 = [⟨0, 1, 0⟩, ⟨1, 1, 0⟩] ∧
    (loop (after (exec (i 0) (statusAt 1 1 (read 0 bad))))).proof = .running 30 ∧
    (loop (t 1 (proving .fault))).pumpB = ⟨true, true, false⟩ ∧ (loop (t 1 (proving .planned))).pumpB = ⟨true, false, false⟩ ∧
    (loop (t 1 (proving .planned))).duty = .a :=
  ⟨⟨by decide +kernel, by decide +kernel, by decide +kernel⟩, ⟨by decide +kernel, by decide +kernel, by decide +kernel⟩,
    ⟨calm_plant.lost, calm_plant.all⟩, readBy_reading 0 1 3 _ (by decide +kernel) (by decide +kernel),
    ⟨by decide +kernel,
      by
        intro o
        cases o with
        | coilFan c => revert c; decide +kernel
        | coilValve c => revert c; decide +kernel
        | pump l p => cases p <;> revert l <;> decide +kernel
        | bypass l => revert l; decide +kernel,
      by decide +kernel⟩,
    by decide +kernel⟩

/-- A reading of FAULT from the fan and the valve node of a coil in each service state; OUT and FAULTED coils, and a coil of an IDLE loop,
are left as they are, and so is every coil at another status (R105). -/
theorem witness_coil_fault_readings :
    let read := fun (n : NodeId) (v : Int) => reading n 2 v (tenCoils false id)
    let t := fun (n : NodeId) (v : Int) => afterReading n 2 v (tenCoils false id)
    let y := fun (t : State) (c : CoilId) => t.coils[c]
    let idle := reading 18 2 3 (tenCoils false fun x => { x with state := .idle })
    Calm (read 18 3).1 ∧ (read 18 3).1.readBy (read 18 3).2 18 2 3 ∧ (read 18 1).1.readBy (read 18 1).2 18 2 1 ∧
    ((cfgTen.coils[(7 : CoilId)]).fanNode = some 18 ∧ (cfgTen.nodes[(18 : NodeId)]).role = .fan ∧ Settings.timesBound cfgTen 18 = 1 ∧
      ∀ pt ∈ cfgTen.points, pt.node ≠ 18) ∧
    ((y (t 18 3) 7).service = .faulted .fan ∧ (y (t 18 3) 7).desiredFan = 0 ∧ (t 18 3).notice.pending = [.coil] ∧
      ((t 18 3).units[(0 : LoopId)]).shedQueue = [] ∧ ⟨18, 0, 0⟩ ∈ (t 18 3).bus.routine) ∧
    ((y (t 19 3) 7).service = .faulted .valve ∧ (y (t 4 3) 0).service = .faulted .fan ∧ ((t 4 3).units[(0 : LoopId)]).permit = some 7) ∧
    ((y (t 7 3) 1).service = .faulted .valve ∧ (y (t 7 3) 1).admission = .stopped ∧ (y (t 8 3) 2).service = .faulted .fan ∧
      2 ∉ ((t 8 3).units[(0 : LoopId)]).kwQueue) ∧
    ((y (t 13 3) 4).service = .faulted .valve ∧ (y (t 15 3) 5).service = .faulted .valve ∧ (y (t 16 3) 6).service = .faulted .fan) ∧
    ((t 20 3).coils = (tenCoils false id).coils ∧ (t 22 3).coils = (tenCoils false id).coils ∧
      (t 18 1).coils = (tenCoils false id).coils ∧ (after (exec idle.2 idle.1)).coils = (tenCoils false id).coils) :=
  ⟨⟨calm_plant.lost, calm_plant.all⟩, readBy_reading 18 2 3 _ (by decide +kernel) (by decide +kernel),
    readBy_reading 18 2 1 _ (by decide +kernel) (by decide +kernel), by decide +kernel⟩

/-- The sixth tick of sample_every 6 is due, the fifth is not; with 0 none is; a locked ring counts the sample as missed. -/
theorem witness_SamplesAreOffered :
    let at_ := fun (k : Nat) => withLoop fun x => { x with sampleCount := k, fanStep := 3, bypass := 0 }
    let ticked := fun s => after (exec (.loopTick 0) s)
    let off := (at_ 5).modCfg fun g => { g with loops := g.loops.set 0 { g.loops[(0 : LoopId)] with sampleEvery := 0 } }
    let e : TraceEntry := ⟨100, .loop 0, .sample ⟨some 120, none, none, 120, 15, 0, 1, .empty⟩⟩
    let writing := fun s : State => { s with trace := { s.trace with h0 := ⟨.filling, [], 1⟩, writer := .writing .h0 } }
    (at_ 5).bus.lost = [] ∧ ((at_ 5).loops[(0 : LoopId)]).tick.isRunning = true ∧
    (ticked (writing (at_ 5))).trace.h0.entries = [e] ∧ ((ticked (at_ 5)).loops[(0 : LoopId)]).sampleCount = 0 ∧
    (ticked (writing (at_ 4))).trace.h0.entries = [] ∧ ((ticked (at_ 4)).loops[(0 : LoopId)]).sampleCount = 5 ∧
    (ticked (writing off)).trace.h0.entries = [] ∧ ((ticked off).loops[(0 : LoopId)]).sampleCount = 0 ∧
    (ticked { at_ 5 with trace := lockedTrace }).trace.missed = 8 ∧
    (ticked (writing ((at_ 5).modLoop 0 fun x => { x with state := .flowloss }))).trace.h0.entries.length = 1 ∧
    ((ticked (at_ 5)).loops[(0 : LoopId)]).tick = .running 10 := by decide +kernel

/-- The plant with its supply at v. -/
def supplyAt (v : Temp) (s : State) : State := s.modNode 3 fun e => { e with points := e.points.set 0 ⟨some v, some 99, .fresh⟩ }

/-- One tick per clause: BLIND; COLD and its release; a lowered fan step; in the band; the bypass closes; the fan rises; the fan falls; the
bypass opens; SAT_COLD. -/
theorem witness_ticks_regulate :
    let ticked := fun s => (after (exec (.loopTick 0) s)).loops[(0 : LoopId)]
    let fan := fun (k b : Nat) => withLoop fun x => { x with fanStep := k, bypass := b, holdoff := .running 9 }
    let blindPlant := plant.modNode 3 fun e => { e with points := e.points.set 0 ⟨some 120, some 50, .stale⟩ }
    plant.bus.lost = [] ∧ blindPlant.supply 0 = none ∧ (ticked blindPlant).blind = true ∧ (ticked blindPlant).blindCount = 1 ∧
    Calm (supplyAt 79 plant) ∧ Calm (supplyAt 126 (fan 3 0)) ∧ (supplyAt 79 plant).supply 0 = some 79 ∧ (ticked (supplyAt 79 plant)).cold = true ∧
    (let chilled := fun v => ticked (supplyAt v (withLoop fun x => { x with cold := true, fanStep := 2 }))
     (chilled 84).cold = true ∧ (chilled 85).cold = false) ∧ (ticked (supplyAt 120 (fan 25 30))).fanStep = 20 ∧
    (ticked (supplyAt 80 (fan 1 30))).fanStep = 0 ∧ (ticked (supplyAt 80 plant)).cold = false ∧
    (ticked (supplyAt 125 (fan 3 30))).fanStep = 3 ∧ (ticked (supplyAt 126 (fan 3 30))).bypass = 20 ∧
    (ticked (supplyAt 126 (fan 3 0))).fanStep = 4 ∧ (ticked (supplyAt 114 (fan 3 30))).fanStep = 2 ∧
    (ticked (supplyAt 114 (fan 0 95))).bypass = 100 ∧ (ticked (supplyAt 114 (fan 0 100))).satCold = true :=
  ⟨by decide +kernel, by decide +kernel, by decide +kernel, by decide +kernel, calm_of (by decide +kernel),
    calm_of (by decide +kernel), by decide +kernel⟩

/-! ## Rosters and coils -/

theorem ready_withCoil (c : CoilId) (f : CoilSt → CoilSt) : Ready (withCoil c f) :=
  ⟨⟨ready_plant.reset, ready_plant.reply, ready_plant.slot⟩, ready_plant.lost⟩

theorem calm_withCoil (c : CoilId) (f : CoilSt → CoilSt) : Calm (withCoil c f) := ⟨calm_plant.lost, calm_plant.all⟩

/-- C1 in an admission. -/
def admitting (k : Nat) (dwelling : Bool) : State :=
  withCoil 1 fun x => { x with service := .admitting k dwelling false, desiredValve := some (25 * k), admitTotal := 4,
                               dwell := if dwelling then .running 0 else .stopped, admission := .running 0 }

/-- Too few coils for min_coils 2; too warm with the fans at their limit; too cold with the fans at 0; more coils than max_coils. -/
theorem witness_ticks_stage :
    let few := supplyAt 120 (withPlan { planOf .active 0 0 with slots := ring.set 0 (some { seg with target := 120, minCoils := 2 }) })
    let many := supplyAt 120 (withPlan { planOf .active 0 0 with slots := ring.set 0 (some { seg with target := 120, maxCoils := 0 }) })
    let warm := supplyAt 140 (withLoop fun x => { x with fanStep := 20, bypass := 0 })
    let cold := supplyAt 100 plant
    let busy := supplyAt 140 ((withLoop fun x => { x with fanStep := 20, bypass := 0 }).modCoil 1 fun x =>
      { x with service := .retiring .closing false })
    busy.staging 0 = true ∧ (busy.loops[(0 : LoopId)]).state = .running ∧
    ((after (exec (.loopTick 0) busy)).loops[(0 : LoopId)]).satWarm = true ∧ LoopCoilLaw lawfulPlant 0 ∧
    (few.effective 0).minCoils = 2 ∧ Calm few ∧ Calm warm ∧ Calm cold ∧ few.staging 0 = false ∧ warm.supply 0 = some 140 ∧
    (cold.loops[(0 : LoopId)]).fanStep = 0 ∧ (cold.loops[(0 : LoopId)]).holdoff = .stopped ∧
    ((cold.cfg.rosters[(0 : LoopId)]).find? fun c => cold.eligible c) = some 1 ∧
    ((after (exec (.loopTick 0) few)).coils[(1 : CoilId)]).service = .admitting 1 false false ∧
    ((after (exec (.loopTick 0) many)).coils[(0 : CoilId)]).service = .retiring .rundown false ∧
    ((after (exec (.loopTick 0) warm)).coils[(1 : CoilId)]).desiredValve = some 25 ∧
    ((after (exec (.loopTick 0) cold)).coils[(0 : CoilId)]).service = .retiring .rundown false ∧
    ((after (exec (.loopTick 0) (warm.modCoil 1 fun x => { x with service := .keepwarm .scheduled }))).coils[(1 : CoilId)]).desiredValve =
      some 25 ∧
    ((after (exec (.loopTick 0) (warm.modCoil 1 fun x => { x with service := .out }))).loops[(0 : LoopId)]).satWarm = true :=
  ⟨by decide +kernel, by decide +kernel, by decide +kernel, loopCoilLaw_lawfulPlant 0, by decide +kernel, calm_of (by decide +kernel),
    calm_of (by decide +kernel), calm_of (by decide +kernel), by decide +kernel⟩

theorem witness_RostersRotate :
    let order := fun v => [kv "loop" "L0", kv "order" v]
    Ready plant ∧ Ready plantLocked ∧ Ready (admitting 1 false) ∧ (plant.cfg.rosters[(0 : LoopId)]).Nodup ∧
    badArg [loopKey, .need "order" [.list, .none] (known (readList readCoil))] (order "C1,C0") = none ∧
    (argOf (order "C1,C0") "order").bind (readList readCoil) = some [1, 0] ∧ [1, 0].Perm (plant.cfg.rosters[(0 : LoopId)]) ∧
    ¬ [1, 1].Perm (plant.cfg.rosters[(0 : LoopId)]) ∧ (admitting 1 false).staging 0 = true ∧ plant.staging 0 = false ∧
    (after (exec (.rosterOrder (order "C1,C0")) plant)).cfg.rosters[(0 : LoopId)] = [1, 0] ∧
    said (exec (.rosterOrder (order "C1,C1")) plant) = [.reply "ROSTER_ORDER" .badArg [("key", .word "order")] none] ∧
    said (exec (.rosterOrder (order "C1,C0")) plantLocked) = [.reply "ROSTER_ORDER" .refused [("why", .word "TIER")] none] ∧
    said (exec (.rosterRotate [kv "loop" "L0"]) (admitting 1 false)) =
      [.reply "ROSTER_ROTATE" .refused [("why", .word "STATE")] none] ∧
    (after (exec (.rosterRotate [kv "loop" "L0"]) plant)).cfg.rosters[(0 : LoopId)] = [1, 0] :=
  ⟨ready_plant, ready_of_free (by decide +kernel), ready_withCoil _ _, by decide +kernel⟩

theorem witness_PlainTimersEnd :
    let turning := fun s : State => s.modUnit 0 fun u => { u with rotation := .running 0 }
    (turning plant).bus.lost = [] ∧ ((turning plant).units[(0 : LoopId)]).rotation.isRunning = true ∧
    (after (exec (.rotateTimerExpiry 0) (turning plant))).cfg.rosters[(0 : LoopId)] = [1, 0] ∧
    ((after (exec (.rotateTimerExpiry 0) (turning (admitting 1 false)))).units[(0 : LoopId)]).deferred = true ∧
    ((after (exec (.holdoffExpiry 0) (withLoop fun x => { x with holdoff := .running 0 }))).loops[(0 : LoopId)]).holdoff = .stopped ∧
    (let s := withCoil 0 fun x => { x with skip := .running 0, cooldown := .running 0 }
     ((after (exec (.admitSkipExpiry 0) s)).coils[(0 : CoilId)]).skip = .stopped ∧
     ((after (exec (.shedCooldownExpiry 0) s)).coils[(0 : CoilId)]).cooldown = .stopped) ∧
    leaves (exec (.admitSkipExpiry 0) plant) plant = true := by decide +kernel

/-- C1 is admitted from ISOLATED at step 1, and from KEEPWARM at the first step above kw_position 20. -/
theorem witness_CoilAdmitAndCoilRetire :
    let warmed := withCoil 1 fun x => { x with service := .keepwarm .scheduled }
    Ready plant ∧ AllReachable plant ∧ (plant.cfg.coils[(1 : CoilId)]).loop = some 0 ∧
    (plant.coils[(1 : CoilId)]).service = .isolated ∧ (plant.loops[(0 : LoopId)]).state = .running ∧ plant.admittingCount 0 = 0 ∧
    said (exec (.coilAdmit [kv "coil" "C1"]) plant) =
      [.reply "COIL_ADMIT" .ok [("loop", .word "L0"), ("position", .int 25)] none] ∧
    ((after (exec (.coilAdmit [kv "coil" "C1"]) warmed)).coils[(1 : CoilId)]).service = .admitting 1 false false ∧
    said (exec (.coilAdmit [kv "coil" "C15"]) plant) = [.reply "COIL_ADMIT" .refused [("why", .word "STATE")] none] ∧
    said (exec (.coilAdmit [kv "coil" "C0"]) plant) = [.reply "COIL_ADMIT" .refused [("why", .word "STATE")] none] ∧
    said (exec (.coilRetire [kv "coil" "C0"]) plant) =
      [.reply "COIL_RETIRE" .ok [("loop", .word "L0"), ("serving", .int 0)] none] ∧
    ((after (exec (.coilRetire [kv "coil" "C0"]) plant)).loops[(0 : LoopId)]).bypass = 100 ∧
    said (exec (.coilRetire [kv "coil" "C0"]) (admitting 1 false)) = [.reply "COIL_RETIRE" .refused [("why", .word "STATE")] none] :=
  ⟨ready_plant, calm_plant.all, by decide +kernel⟩

theorem witness_CoilClearReleasesFaultedCoils :
    let args := [kv "coils" "x0002"]
    let s := withCoil 1 fun x => { x with service := .faulted .stroke }
    Ready s ∧ AllReachable s ∧ badArgGroup [] args = none ∧ (argOf args "coils").bind readMask = some 2#16 ∧
    ((after (exec (.coilClear args) s)).coils[(1 : CoilId)]).service = .retiring .closing false ∧
    said (exec (.coilClear [kv "coils" "x8003"]) s) =
      [.reply "COIL_CLEAR" .refused [("why", .word "STATE"), ("refused", .mask 0x8001)] none] :=
  ⟨ready_withCoil _ _, calm_plant.all, by decide +kernel⟩

theorem witness_StrokeAndStagingTimersMoveTheCoil :
    let stuck := withCoil 0 fun x => { x with stroke := .running 0 }
    let retiring := withCoil 0 fun x => { x with service := .retiring .rundown true, rundown := .running 0 }
    Calm stuck ∧ Calm retiring ∧ Calm (admitting 3 true) ∧ (stuck.loops[(0 : LoopId)]).state ≠ .idle ∧
    ((after (exec (.strokeTimeout 0) stuck)).coils[(0 : CoilId)]).service = .faulted .stroke ∧
    ((after (exec (.stepDwellExpiry 1) (admitting 3 true))).coils[(1 : CoilId)]).desiredValve = some 100 ∧
    ((admitting 3 true).coils[(1 : CoilId)]).frostGiven = .clear ∧
    ((after (exec (.admitTimeout 1) (admitting 3 true))).coils[(1 : CoilId)]).service = .isolated ∧
    ((after (exec (.admitTimeout 1) (admitting 3 true))).coils[(1 : CoilId)]).skip = .running 300 ∧
    ((after (exec (.rundownExpiry 0) retiring)).coils[(0 : CoilId)]).service = .retiring .closing true ∧
    ((after (exec (.rundownExpiry 0) (retiring.modLoop 0 fun x => { x with state := .flowloss }))).coils[(0 : CoilId)]).rundown =
      .expiredWaiting :=
  ⟨calm_withCoil _ _, calm_withCoil _ _, calm_withCoil _ _, by decide +kernel⟩

/-- The plant with N6, C0's valve node, read at v while a check of the position d runs. -/
def valveReads (d v : Nat) (sv : Service) : State × Instr :=
  ({ (withCoil 0 fun x => { x with service := sv, desiredValve := some d, stroke := .running 9, settled := false, admitTotal := 4 }) with
     bus := { plant.bus with flight := some ⟨.poller, .read, 5, 1, 0, 40⟩ } }, .replyFrame (frame 5 1 0 (BitVec.ofNat 16 v)))

/-- Within 5 of the position the check is settled and within 6 it is not; a middle step dwells, the last one SERVES, and a retirement that
closes ends in OUT or ISOLATED. -/
theorem witness_valve_readings :
    let y := fun (p : State × Instr) => (after (exec p.2 p.1)).coils[(0 : CoilId)]
    let s := (valveReads 25 20 .serving).1
    Calm s ∧ (s.cfg.nodes[(5 : NodeId)]).role = .valve ∧ (s.cfg.coils[(0 : CoilId)]).valveNode = some 5 ∧ Settings.timesBound s.cfg 5 = 1 ∧
    (∀ pt ∈ s.cfg.points, pt.node ≠ 5) ∧ replyResult ⟨.poller, .read, 5, 1, 0, 40⟩ (frame 5 1 0 20) = ⟨.good, some .accept, some 20⟩ ∧
    (y (valveReads 25 20 .serving)).settled = true ∧ (y (valveReads 25 19 .serving)).settled = false ∧
    (y (valveReads 75 80 (.admitting 3 false false))).service = .admitting 3 true false ∧
    (y (valveReads 75 80 (.admitting 3 false false))).dwell = .running 120 ∧
    (y (valveReads 100 95 (.admitting 4 false false))).service = .serving ∧
    (y (valveReads 0 5 (.retiring .closing true))).service = .out ∧
    (y (valveReads 0 5 (.retiring .closing false))).service = .isolated ∧
    (y (valveReads 0 5 (.retiring .closing false))).kwTimer = .running 3600 :=
  ⟨calm_of (by decide +kernel), by decide +kernel⟩

/-- C1 in an admission from a supply of 12.0: at 10.5 it goes on, at 10.4 it is HELD (R91). -/
theorem witness_held_admission :
    let s := fun (v : Temp) (held : Bool) => supplyAt v (withCoil 1 fun x =>
      { x with service := .admitting 2 true held, admitRef := some 120, dwell := if held then .paused 40 else .running 40,
               admission := .running 900 })
    let y := fun u => (after (exec (.loopTick 0) u)).coils[(1 : CoilId)]
    Calm (s 104 false) ∧ ((s 104 false).loops[(0 : LoopId)]).tick.isRunning = true ∧
    (y (s 104 false)).service = .admitting 2 true true ∧ (y (s 104 false)).dwell = .paused 40 ∧
    (y (s 105 false)).service = .admitting 2 true false ∧ (y (s 105 true)).dwell = .running 40 ∧ (y (s 104 true)).dwell = .paused 40 :=
  ⟨calm_of (by decide +kernel), by decide +kernel⟩

/-- The plant with C1 CLEAR in a service state, its queue, and the read of its outlet, N4.3, in flight. -/
def outletReads (sv : Service) (q : List CoilId) (n : Nat) : State :=
  { ((withCoil 1 fun x => { x with service := sv, frostGiven := .clear }).modUnit 0 fun u =>
      { u with kwQueue := q, kwCount := n, permit := some 1 }) with
    frost := plant.frost.set 1 ⟨.clear, some 0, 5, .reading⟩
    bus := { plant.bus with flight := some ⟨.poller, .read, 3, 3, 0, 40⟩ } }

/-- The hand-over of WATCH at -17.0 and of TRIP at -22.0. -/
theorem witness_frost_handover :
    let read := fun (s : State) (v : Int) => after (exec (.replyFrame (frame 3 1 0 (BitVec.ofInt 16 v))) s)
    let sv := fun (t : State) => (t.coils[(1 : CoilId)]).service
    let s := outletReads .isolated [] 0
    Calm s ∧ (s.cfg.nodes[(3 : NodeId)]).role = .sensor ∧ (s.cfg.coils[(1 : CoilId)]).outletPt = some ⟨3, 3⟩ ∧
    (s.cfg.points.filter fun pt => pt = ⟨3, 3⟩).length = 1 ∧ Settings.timesBound s.cfg 3 = 0 ∧
    replyResult ⟨.poller, .read, 3, 3, 0, 40⟩ (frame 3 1 0 (BitVec.ofInt 16 (-220))) = ⟨.good, some .accept, some (-220)⟩ ∧
    (read s (-169)).coils = s.coils ∧ sv (read s (-170)) = .keepwarm .scheduled ∧ ((read s (-170)).units[(0 : LoopId)]).kwCount = 1 ∧
    sv (read (outletReads .isolated [] 2) (-170)) = .isolated ∧
    ((read (outletReads .isolated [] 2) (-170)).units[(0 : LoopId)]).kwQueue = [1] ∧
    sv (read s (-220)) = .keepwarm .emergency ∧ Source.frost ∈ (read s (-220)).notice.pending ∧
    (read s (-220)).summaries[(0 : LoopId)] = .tripped ∧ (read s (-170)).summaries[(0 : LoopId)] = .guarded ∧
    sv (read (outletReads .serving [] 0) (-220)) = .serving ∧ sv (read (outletReads .shedding [] 0) (-170)) = .serving ∧
    ((read (outletReads .shedding [] 0) (-170)).coils[(1 : CoilId)]).cooldown = .running 3600 ∧
    sv (read (outletReads (.keepwarm .scheduled) [] 1) (-220)) = .keepwarm .emergency ∧
    ((read (outletReads (.keepwarm .scheduled) [] 1) (-220)).units[(0 : LoopId)]).kwCount = 0 ∧
    sv (read (outletReads (.keepwarm .scheduled) [] 1) (-170)) = .keepwarm .scheduled ∧ sv (read (outletReads .out [] 0) (-220)) = .out :=
  ⟨calm_of (by decide +kernel), by decide +kernel⟩

theorem witness_KeepWarmTimers :
    let due := withCoil 1 fun x => { x with kwTimer := .running 0 }
    let warming := fun k f => (withCoil 1 fun x =>
      { x with service := .keepwarm k, kwDwell := .running 0, frostGiven := f }).modUnit 0 fun u => { u with kwCount := 1 }
    Calm due ∧ (due.coils[(1 : CoilId)]).kwTimer.isRunning = true ∧ due.inputs.outdoor.temp = none ∧
    (due.units[(0 : LoopId)]).kwCount < (due.cfg.loops[(0 : LoopId)]).kwConcurrency ∧ (due.units[(0 : LoopId)]).kwQueue = [] ∧
    ((after (exec (.keepwarmTimerExpiry 1) due)).coils[(1 : CoilId)]).service = .keepwarm .scheduled ∧
    (let mild := due.modInputs fun i => { i with outdoor := .host (-150) }
     ((after (exec (.keepwarmTimerExpiry 1) mild)).coils[(1 : CoilId)]).kwTimer = .running 3600) ∧
    (let full := due.modUnit 0 fun u => { u with kwCount := 2 }
     ((after (exec (.keepwarmTimerExpiry 1) full)).units[(0 : LoopId)]).kwQueue = [1]) ∧
    (let t := after (exec (.kwDwellExpiry 1) (warming .scheduled .clear))
     (t.coils[(1 : CoilId)]).service = .isolated ∧ (t.units[(0 : LoopId)]).kwCount = 0 ∧ (t.coils[(1 : CoilId)]).kwTimer = .running 3600) ∧
    ((after (exec (.kwDwellExpiry 1) (warming .emergency .trip))).coils[(1 : CoilId)]).kwDwell = .running 300 :=
  ⟨calm_withCoil _ _, by decide +kernel⟩

/-- C1 in a frost state, with this many SCHEDULED cycles in L0 and these coils waiting. -/
def endangered (f : FrostState) (count : Nat) (queue : List CoilId) (s : State) : State :=
  (s.modCoil 1 fun x => { x with frostGiven := f }).modUnit 0 fun u => { u with kwQueue := queue, kwCount := count }

def decideAsks (s : State) (c : CoilId) (l : LoopId) : Decidable (s.asks c l) := by
  unfold State.asks; infer_instance

def decideServed (s t : State) (c : CoilId) (l : LoopId) (n : Nat) : Decidable (s.requestServed t c l n) := by
  unfold State.requestServed; dsimp only
  refine @instDecidableAnd _ _ ?_ (@instDecidableAnd _ _ ?_ ?_) <;> infer_instance

/-- C1 asks, and the command serves its request against this count. -/
def askServed (s : State) (i : Instr) (count : Nat) : Bool :=
  @decide _ (decideAsks s 1 0) && @decide _ (decideServed s (after (exec i s)) 1 0 count)

theorem asks_and_served {s : State} {i : Instr} {count : Nat} (h : askServed s i count = true) :
    s.asks 1 0 ∧ s.requestServed (after (exec i s)) 1 0 count := by
  unfold askServed at h
  rw [Bool.and_eq_true] at h
  exact ⟨@of_decide_eq_true _ (decideAsks s 1 0) h.1, @of_decide_eq_true _ (decideServed s _ 1 0 count) h.2⟩

/-- A coil that enters ISOLATED in WATCH or TRIP makes its request: at the end of an admission, of a cycle, of a retirement, and at COIL_IN
(R101). -/
theorem witness_requests_at_isolation :
    let timedOut := fun f n q => endangered f n q (admitting 3 true)
    let warm := fun k f n q => endangered f n q (withCoil 1 fun x =>
      { x with service := .keepwarm k, desiredValve := some 15, kwDwell := .running 0 })
    let closing := fun f n q => endangered f n q { (withCoil 1 fun x =>
      { x with service := .retiring .closing false, desiredValve := some 0, stroke := .running 9, settled := false }) with
        bus := { plant.bus with flight := some ⟨.poller, .read, 7, 1, 0, 40⟩ } }
    let out := fun f n q => endangered f n q (withCoil 1 fun x => { x with service := .out })
    let read := Instr.replyFrame (frame 7 1 0 5)
    let back := Instr.coilIn [kv "coils" "x0002"]
    Calm (timedOut .trip 2 [0]) ∧ Calm (warm .scheduled .watch 1 []) ∧ Calm (closing .trip 2 [0]) ∧ Ready (out .trip 0 []) ∧
    AllReachable (out .trip 0 []) ∧ (plant.loops[(0 : LoopId)]).state = .running ∧ plant.mode = .run ∧
    (plant.cfg.coils[(1 : CoilId)]).valveNode = some 7 ∧ Settings.timesBound plant.cfg 7 = 1 ∧
    askServed (timedOut .trip 2 [0]) (.admitTimeout 1) 2 = true ∧ askServed (timedOut .watch 2 [0]) (.admitTimeout 1) 2 = true ∧
    askServed (timedOut .watch 1 []) (.admitTimeout 1) 1 = true ∧
    askServed (warm .scheduled .trip 1 []) (.kwDwellExpiry 1) 0 = true ∧ askServed (warm .scheduled .watch 1 []) (.kwDwellExpiry 1) 0 = true ∧
    askServed (warm .scheduled .watch 3 [0]) (.kwDwellExpiry 1) 2 = true ∧ askServed (warm .emergency .watch 2 [1]) (.kwDwellExpiry 1) 2 = true ∧
    askServed (closing .trip 2 [0]) read 2 = true ∧ askServed (closing .watch 2 []) read 2 = true ∧ askServed (closing .watch 0 []) read 0 = true ∧
    askServed (out .trip 0 []) back 0 = true ∧ askServed (out .watch 2 [0]) back 2 = true ∧ askServed (out .watch 1 []) back 1 = true ∧
    askServed (timedOut .unknown 0 []) (.admitTimeout 1) 0 = false :=
  ⟨calm_of (by decide +kernel), calm_of (by decide +kernel), calm_of (by decide +kernel), ready_of_free (by decide +kernel),
    allReachable_of (by decide +kernel), by decide +kernel⟩

theorem witness_ShedTimer :
    let s := (withCoil 0 fun x => { x with service := .shedding, shed := .running 0 }).modUnit 0 fun u => { u with permit := some 0 }
    Calm s ∧ (s.coils[(0 : CoilId)]).service = .shedding ∧
    (let t := after (exec (.shedTimerExpiry 0) s)
     (t.coils[(0 : CoilId)]).service = .serving ∧ (t.units[(0 : LoopId)]).permit = none ∧
     (t.coils[(0 : CoilId)]).cooldown = .running 3600) :=
  ⟨calm_of (by decide +kernel), by decide +kernel⟩

/-- The plant with C0 able to shed and an icing sensor on N10. -/
def icingPlant : State :=
  plant.modCfg fun g => { g with
    nodes := g.nodes.set 9 ⟨.sensor, 1⟩
    inputs := g.inputs.set 3 { g.inputs[(3 : InputId)] with role := .snowWarn, activeHigh := true }
    coils := g.coils.set 0 { g.coils[(0 : CoilId)] with icingPt := some ⟨9, 0⟩, options := ⟨true, false, true⟩ } }

/-- A pass-through READ of a status point, of a flow point and of an icing point acts as the poller's, and its reply is placed. -/
theorem witness_readings_by_pass :
    let starting := fun x : LoopSt => { x with state := .starting, proof := .running 9 }
    let planned := withLoop fun x =>
      { x with state := .failover, reason := some .planned, proof := .running 9, pumpB := ⟨false, true, false⟩ }
    let passed := fun (n : NodeId) (p : Fin 4) (v : Int) (s : State) => after (exec (reading n p v s).2 (passing n p s))
    let loop := fun t : State => t.loops[(0 : LoopId)]
    let tells := fun (v : Int) (t : State) =>
      t.link.tx = [.reply "BUS_PASS" .ok [("outcome", .word "GOOD"), ("status", .word "ACCEPT"), ("value", .int v)] none]
    Calm (passing 0 1 (withLoop starting)) ∧ Calm (passing 8 0 (metered 39 starting)) ∧ Calm (passing 0 1 planned) ∧
    Calm (passing 9 0 icingPlant) ∧
    ((passing 0 1 planned).readBy (reading 0 1 3 planned).2 0 1 3 ∧ (passing 0 1 planned).answersPass (reading 0 1 3 planned).2) ∧
    ((passing 9 0 icingPlant).readBy (reading 9 0 40 icingPlant).2 9 0 40 ∧
      (passing 9 0 icingPlant).answersPass (reading 9 0 40 icingPlant).2) ∧
    (let t := passed 0 1 1 (withLoop starting); (loop t).state = .running ∧ tells 1 t) ∧
    (let t := passed 8 0 40 (metered 39 starting); (loop t).state = .running ∧ tells 40 t) ∧
    (let t := passed 0 1 3 planned; (loop t).reason = some .fault ∧ (loop t).proof = .running 9 ∧ tells 3 t) ∧
    (let t := passed 9 0 40 icingPlant; (t.coils[(0 : CoilId)]).service = .shedding ∧ tells 40 t) :=
  ⟨calm_of (by decide +kernel), calm_of (by decide +kernel), calm_of (by decide +kernel), calm_of (by decide +kernel),
    readBy_passing 0 1 3 _ (by decide +kernel) (by decide +kernel), readBy_passing 9 0 40 _ (by decide +kernel) (by decide +kernel),
    by decide +kernel⟩

/-- At icing_limit 40 the eligible coil takes the free permit; below it, or with the permit held, it does not; a snow warning does the
same; and a freed permit goes to the next in the queue. -/
theorem witness_CoilsEnterShedding :
    let s := icingPlant
    let held := s.modUnit 0 fun u => { u with permit := some 1 }
    let warned := s.modInputs fun i =>
      { i with contacts := i.contacts.set 3 { i.contacts[(3 : InputId)] with pin := true, timer := some 0 } }
    let sv := fun t : State => (t.coils[(0 : CoilId)]).service
    let shedding := (s.modCoil 1 fun x => { x with service := .shedding, shed := .running 0 }).modUnit 0 fun u =>
      { u with permit := some 1, shedQueue := [1, 0] }
    Calm s ∧ Calm warned ∧ Calm shedding ∧ RosterLaw s.cfg ∧ s.shedEligible 0 = true ∧ s.shedEligible 1 = false ∧ soleUse s.cfg 9 0 ∧
    (reading 9 0 40 s).1.readBy (reading 9 0 40 s).2 9 0 40 ∧
    (let t := afterReading 9 0 40 s
     sv t = .shedding ∧ (t.coils[(0 : CoilId)]).shed = .running 120 ∧ (t.units[(0 : LoopId)]).permit = some 0 ∧
       ⟨4, -60, 0⟩ ∈ t.bus.routine) ∧
    sv (afterReading 9 0 39 s) = .serving ∧ sv (afterReading 9 0 40 held) = .serving ∧
    ((afterReading 9 0 40 held).units[(0 : LoopId)]).shedQueue = [0] ∧
    (((warned.inputs.contacts)[(3 : InputId)]).timer.isSome = true ∧ warned.inputs.snowWarn = false ∧
      sv (after (exec (.debounceExpiry (.d 3)) warned)) = .shedding) ∧
    (let t := after (exec (.shedTimerExpiry 1) shedding)
     sv t = .shedding ∧ t.units[(0 : LoopId)] = { shedding.units[(0 : LoopId)] with permit := some 0, shedQueue := [] }) :=
  ⟨calm_of (by decide +kernel), calm_of (by decide +kernel), calm_of (by decide +kernel), by unfold RosterLaw; decide +kernel,
    by decide +kernel, by decide +kernel, by unfold soleUse; decide +kernel,
    readBy_reading 9 0 40 _ (by decide +kernel) (by decide +kernel),
    by decide +kernel⟩

/-- The worked values of R86: fan_step 5, ceiling 60, fan_min 20: step 3 gives 20, step 14 gives 60, and 20 in WATCH. -/
theorem witness_fan_speeds :
    let s := fun (k : Nat) (f : FrostState) => ((withPlan { planOf .active 0 0 with
      slots := ring.set 0 (some { seg with ceiling := 60 }) }).modLoop 0 fun x => { x with fanStep := k }).modCoil 0
        fun x => { x with frostGiven := f }
    ((s 3 .clear).cfg.coils[(0 : CoilId)]).loop = some 0 ∧ (s 3 .clear).fanDemand 0 = 20 ∧ (s 3 .watch).fanDemand 0 = 20 ∧
    (s 14 .clear).fanDemand 0 = 60 ∧ (s 14 .watch).fanDemand 0 = 20 ∧ (s 0 .watch).fanDemand 0 = 0 ∧ (s 14 .trip).fanDemand 0 = 0 ∧
    ((s 14 .clear).setOverride 0 (some ⟨.fan 100, none⟩)).fanDemand 0 = 100 ∧
    ((s 14 .clear).modCoil 0 fun x => { x with service := .shedding }).fanDemand 0 = -60 ∧
    ((s 14 .clear).modInputs fun i => { i with plantStop := true }).fanDemand 0 = 0 ∧ (s 14 .clear).fanDemand 1 = 0 := by
  decide +kernel

/-! ## Group requests and overrides -/

theorem witness_CoilOutAndCoilIn :
    let args := [kv "coils" "x0003"]
    let outs := withCoil 1 fun x => { x with service := .out }
    Ready plant ∧ Ready outs ∧ badArgGroup [] args = none ∧ (argOf args "coils").bind readMask = some 3#16 ∧ AllReachable plant ∧
    said (exec (.coilOut args) plant) = [.reply "COIL_OUT" .ok [("out", .mask 3)] none] ∧
    said (exec (.coilOut [kv "coils" "xFFFF"]) plant) =
      [.reply "COIL_OUT" .refused [("why", .word "STATE"), ("refused", .mask 0xFFFC)] none] ∧
    ((after (exec (.coilOut [kv "coils" "x0001"]) plant)).coils[(0 : CoilId)]).service = .retiring .rundown true ∧
    ((after (exec (.coilOut [kv "coils" "x0002"]) plant)).coils[(1 : CoilId)]).service = .out ∧
    said (exec (.coilIn [kv "coils" "x0002"]) outs) = [.reply "COIL_IN" .ok [("in", .mask 2)] none] ∧
    ((after (exec (.coilIn [kv "coils" "x0002"]) outs)).coils[(1 : CoilId)]).service = .isolated ∧
    said (exec (.coilIn args) outs) = [.reply "COIL_IN" .refused [("why", .word "STATE"), ("refused", .mask 1)] none] ∧
    said (exec (.coilIn args) bench) = [.reply "COIL_IN" .refused [("why", .word "STATE"), ("refused", .mask 3)] none] :=
  ⟨ready_plant, ready_withCoil _ _, by decide +kernel, by decide +kernel, calm_plant.all, by decide +kernel⟩

/-- The last serving coil, withdrawn with another, opens the bypass; with one left it stays. -/
theorem witness_several_coils_leave :
    let out := fun (m : String) (s : State) => after (exec (.coilOut [kv "coils" m]) s)
    let two := lawfulPlant.modCoil 1 fun x => { x with service := .serving }
    AllReachable lawfulPlant ∧ BindingLaw lawfulPlant.cfg ∧ (∀ l, LoopCoilLaw lawfulPlant l) ∧ lawfulPlant.servingCount 0 = 1 ∧
    ((out "x0003" lawfulPlant).loops[(0 : LoopId)]).bypass = 100 ∧ ⟨2, 100, 0⟩ ∈ (out "x0003" lawfulPlant).bus.urgent ∧
    ((out "x0003" lawfulPlant).coils[(0 : CoilId)]).service = .retiring .rundown true ∧
    ((out "x0003" lawfulPlant).coils[(1 : CoilId)]).service = .out ∧
    ((out "x0001" two).loops[(0 : LoopId)]).bypass = 30 ∧ ((out "x0003" two).loops[(0 : LoopId)]).bypass = 100 :=
  ⟨allReachable_of (by decide +kernel), bindingLaw_cfg0, loopCoilLaw_lawfulPlant, by decide +kernel⟩

theorem witness_AmendAndLimits :
    let rest := fun o k => [kv "coils" "x0003", kv "opts" o, kv "mask" k]
    let opts := fun t : State => (t.cfg.coils[(0 : CoilId)]).options
    let spec := [KeySpec.need "op" [.name] (known readAmendOp), optsKey "opts", optsKey "mask"]
    Ready plant ∧ badArgGroup spec (kv "op" "PUT" :: rest "SHED_OK" "SHED_OK,KEEPWARM_OK") = none ∧
    (argOf (rest "none" "SHED_OK") "opts").bind (readList readOptName) = some [] ∧
    opts (after (exec (.coilAmendPut (rest "SHED_OK" "SHED_OK,KEEPWARM_OK")) plant)) = ⟨true, false, true⟩ ∧
    opts (after (exec (.coilAmendAnd (rest "none" "SHED_OK")) plant)) = ⟨false, true, true⟩ ∧
    opts (after (exec (.coilAmendOr (rest "none" "SHED_OK")) plant)) = ⟨true, true, true⟩ ∧
    opts (after (exec (.coilAmendXor (rest "REVERSE_OK" "REVERSE_OK")) plant)) = ⟨true, true, false⟩ ∧
    said (exec (.coilAmendXor (rest "REVERSE_OK" "SHED_OK")) plant) = [.reply "COIL_AMEND" .ok [("changed", .mask 0)] none] ∧
    (let args := [kv "coils" "x0002", kv "fan_min" "50", kv "fan_max" "51"]
     badArgGroup [.may "fan_min" [.int] (intIn 10 50), .may "fan_max" [.int] (intIn 50 100)] args = none ∧
     said (exec (.coilLimits args) plant) = [.reply "COIL_LIMITS" .ok [("changed", .mask 2)] none]) ∧
    (let args := [kv "coils" "x0003", kv "fan_min" "50", kv "fan_max" "50"]
     badArgGroup [.may "fan_min" [.int] (intIn 10 50), .may "fan_max" [.int] (intIn 50 100)] args = none ∧
     said (exec (.coilLimits args) plant) = [.reply "COIL_LIMITS" .refused [("why", .word "STATE"), ("refused", .mask 3)] none]) ∧
    said (exec (.coilLimits [kv "coils" "x8000"]) plant) = [.reply "COIL_LIMITS" .ok [("changed", .mask 0)] none] :=
  ⟨ready_plant, by decide +kernel⟩

/-- An option that changes acts at once (R133), and so does a changed fan limit (R134). -/
theorem witness_changes_act_at_once :
    let amend := fun (o m : String) (s : State) => after (exec (.coilAmendPut [kv "coils" "x0003", kv "opts" o, kv "mask" m]) s)
    let waiting := withCoil 1 (fun x => { x with kwTimer := .running 7 }) |>.modUnit 0 fun u => { u with kwQueue := [1] }
    let bare := plant.modCoilRec 1 fun r => { r with options := ⟨true, false, true⟩ }
    let warm := withCoil 1 fun x => { x with service := .keepwarm .scheduled, kwDwell := .running 60 }
    let shed := lawfulPlant.modUnit 0 fun u => { u with shedQueue := [0, 1] }
    let fast := (withCoil 0 fun x => { x with desiredFan := 80 }).modLoop 0 fun x => { x with fanStep := 20 }
    AllReachable plant ∧ AllReachable shed ∧ (plant.cfg.coils[(1 : CoilId)]).options.keepwarmOk = true ∧
    (let t := amend "SHED_OK" "KEEPWARM_OK" waiting
     (t.units[(0 : LoopId)]).kwQueue = [] ∧ (t.coils[(1 : CoilId)]).kwTimer = .stopped) ∧
    (amend "none" "KEEPWARM_OK" warm).coils[(1 : CoilId)] = warm.coils[(1 : CoilId)] ∧
    ((amend "KEEPWARM_OK" "KEEPWARM_OK" bare).coils[(1 : CoilId)]).kwTimer = .running 3600 ∧
    (amend "KEEPWARM_OK" "KEEPWARM_OK" plant).coils[(1 : CoilId)] = plant.coils[(1 : CoilId)] ∧
    (amend "none" "KEEPWARM_OK" (waiting.modUnit 0 fun u => { u with shedQueue := [0] })).units[(0 : LoopId)] =
      { (waiting.units[(0 : LoopId)]) with kwQueue := [], shedQueue := [0] } ∧
    (let t := amend "none" "REVERSE_OK" shed
     (t.coils[(0 : CoilId)]).service = .serving ∧ (t.coils[(0 : CoilId)]).cooldown = .running 3600 ∧
     (t.coils[(0 : CoilId)]).desiredFan = t.fanDemand 0 ∧ (t.units[(0 : LoopId)]).permit = none ∧
     (t.units[(0 : LoopId)]).shedQueue = [] ∧ ⟨4, t.fanDemand 0, 0⟩ ∈ t.bus.routine) ∧
    (let t := after (exec (.coilLimits [kv "coils" "x0003", kv "fan_max" "60"]) fast)
     (t.coils[(0 : CoilId)]).desiredFan = 60 ∧ t.fanDemand 0 = 60 ∧ ⟨4, 60, 0⟩ ∈ t.bus.routine ∧
     t.coils[(1 : CoilId)] = fast.coils[(1 : CoilId)]) :=
  ⟨calm_plant.all, allReachable_of (by decide +kernel), by decide +kernel⟩

theorem witness_OverridesAreSetClearedAndExpire :
    let args := [kv "coils" "x0001", kv "kind" "FAN", kv "value" "40", kv "for" "60"]
    let hold := [kv "coils" "x0001", kv "kind" "HOLD"]
    let s := after (exec (.overrideSet args) plant)
    Ready plant ∧ badArgGroup (overrideKeys (some true)) args = none ∧ badArgGroup (overrideKeys (some false)) hold = none ∧
    (argOf args "value").bind readInt = some 40 ∧ s.overrides[(0 : CoilId)] = some ⟨.fan 40, some 160⟩ ∧
    (s.coils[(0 : CoilId)]).desiredFan = 40 ∧ (after (exec (.overrideSet hold) plant)).overrides[(0 : CoilId)] = some ⟨.hold, none⟩ ∧
    said (exec (.overrideClear [kv "coils" "x0003"]) (plant.setOverride 0 (some ⟨.hold, none⟩))) =
      [.reply "OVERRIDE_CLEAR" .ok [("cleared", .mask 1)] none] ∧
    (let pinned := (plant.setOverride 0 (some ⟨.fan 40, none⟩)).modCoil 0 fun x => { x with desiredFan := 40 }
     AllReachable pinned ∧ ((after (exec (.overrideClear [kv "coils" "x0003"]) pinned)).coils[(0 : CoilId)]).desiredFan = 0) ∧
    (let shed := plant.modCoil 0 fun x => { x with service := .shedding, desiredFan := -60 }
     AllReachable shed ∧ ((after (exec (.overrideSet args) shed)).coils[(0 : CoilId)]).service = .serving ∧
     ((after (exec (.overrideSet args) shed)).coils[(0 : CoilId)]).desiredFan = 40) ∧
    (let due := (plant.setOverride 0 (some ⟨.fan 40, some 100⟩)).modCoil 0 fun x => { x with desiredFan := 40 }
     due.bus.lost = [] ∧ (after (exec (.overrideExpiry 0) due)).overrides[(0 : CoilId)] = none ∧
     (after (exec (.overrideExpiry 0) due)).notice.pending = [.override]) ∧
    (let early := plant.setOverride 0 (some ⟨.fan 40, some 101⟩)
     leaves (exec (.overrideExpiry 0) early) early = true) :=
  ⟨ready_plant, by decide +kernel, by decide +kernel, by decide +kernel, by decide +kernel, by decide +kernel, by decide +kernel,
    by decide +kernel, ⟨allReachable_of (by decide +kernel), by decide +kernel⟩, ⟨allReachable_of (by decide +kernel), by decide +kernel⟩,
    by decide +kernel⟩

/-! ## The roof bus -/

theorem witness_TheArbiterGrantsInOrder :
    let fl := fun f => (after (exec .busGrant (withBus f))).bus.flight
    let u : Entry := ⟨0, 1, 0⟩
    let r : Entry := ⟨4, 30, 0⟩
    plant.bus.line = .up ∧ plant.bus.flight = none ∧ plant.bus.poller.phase = .waiting ∧ plant.nextPoll = some (0, 0, .read, 1) ∧
    fl id = some ⟨.poller, .read, 0, 1, 0, 40⟩ ∧
    fl (fun b => { b with urgent := [u], routine := [r] }) = some ⟨.command .urgent 0 false, .write, 0, 0, 1, 40⟩ ∧
    fl (fun b => { b with routine := [r], pass := .waiting ⟨.read, 3, 1, 0⟩ 2 }) =
      some ⟨.command .routine 0 false, .write, 4, 0, 30, 40⟩ ∧
    fl (fun b => { b with pass := .waiting ⟨.read, 3, 1, 0⟩ 2 }) = some ⟨.pass, .read, 3, 1, 0, 40⟩ ∧
    fl (fun b => { b with urgent := [u], share := 6 }) = some ⟨.poller, .read, 0, 1, 0, 40⟩ ∧
    fl (fun b => { b with urgent := [u], line := .down 5 }) = none := by decide +kernel

/-- The plant with a transaction in flight. -/
def flying (f : Flight) : State := withBus fun b => { b with flight := some f }

theorem witness_MissedRepliesCountAgainstTheNode :
    let f : Flight := ⟨.poller, .read, 3, 1, 0, 40⟩
    let at_ := fun st k => (flying f).modNode 3 fun e => { e with state := st, miss := k }
    let y := fun s => (after (exec .replyWindowExpiry s)).nodes[(3 : NodeId)]
    (flying f).bus.lost = [] ∧ (plant.cfg.nodes[(3 : NodeId)]).role ≠ .none ∧ f.kind ≠ .ident ∧
    ((flying f).bus.rx ++ [4#8]).length < 7 ∧ (after (exec (.replyFrame [4#8]) (flying f))).bus.rx = [4#8] ∧
    (y (flying f)).state = .suspect ∧ (y (flying f)).miss = 1 ∧ (y (at_ .suspect 1)).miss = 2 ∧
    (y (at_ .suspect 2)).state = .offline ∧ (y (at_ .unseen 0)).state = .unseen ∧
    (let t := after (exec .echoMismatch ((flying f).modBus fun b => { b with lineErrors := 2 }))
     t.bus.line = .down 5 ∧ t.notice.pending = [.bus]) ∧
    (after (exec .echoMismatch (flying f))).bus.lineErrors = 1 ∧ leaves (exec .replyWindowExpiry plant) plant = true := by
  decide +kernel

/-- The outcomes of an IDENT of N4, a SENSOR, in each state of the node (R145). -/
theorem witness_ident_outcomes :
    let at_ := fun st k => (flying ⟨.poller, .ident, 3, 0, 0, 40⟩).modNode 3 fun e => { e with state := st, miss := k }
    let y := fun (s : State) (bytes : List Byte) => (after (exec (.replyFrame bytes) s)).nodes[(3 : NodeId)]
    let late := fun (s : State) => (after (exec .replyWindowExpiry s)).nodes[(3 : NodeId)]
    let same := frame 3 3 0 4
    let other := frame 3 3 0 1
    let refused := frame 3 3 1 4
    replyResult ⟨.poller, .ident, 3, 0, 0, 40⟩ same = ⟨.good, some .accept, some 4⟩ ∧
    replyResult ⟨.poller, .ident, 3, 0, 0, 40⟩ refused = ⟨.refused, some .refuse, some 4⟩ ∧
    (y (at_ .unseen 0) same).state = .online ∧ (y (at_ .offline 3) same).state = .online ∧ (y (at_ .wrongRole 1) same).state = .wrongRole ∧
    (y (at_ .offline 3) other).state = .wrongRole ∧ (y (at_ .offline 3) other).miss = 3 ∧
    (y (at_ .suspect 2) other).state = .wrongRole ∧ (y (at_ .suspect 2) other).miss = 0 ∧
    (y (at_ .unseen 2) refused).miss = 0 ∧ (y (at_ .suspect 2) refused).state = .online ∧ (late (at_ .offline 3)).miss = 3 ∧
    (late (at_ .online 0)).state = .suspect ∧ (late (at_ .suspect 1)).miss = 2 ∧ (late (at_ .suspect 2)).state = .offline := by
  decide +kernel

/-- A BADFRAME to the IDENT of N4, a SENSOR, counts as a TIMEOUT does (R144, R145). -/
theorem witness_garbled_ident :
    let f : Flight := ⟨.poller, .ident, 3, 0, 0, 40⟩
    let at_ := fun st k => (flying f).modNode 3 fun e => { e with state := st, miss := k, reported := some 4 }
    let y := fun (s : State) => (after (exec (.replyFrame (frame 3 1 0 4)) s)).nodes[(3 : NodeId)]
    replyResult f (frame 3 1 0 4) = ⟨.badFrame, none, none⟩ ∧ (y (at_ .online 0)).state = .suspect ∧ (y (at_ .suspect 1)).miss = 2 ∧
    (y (at_ .suspect 2)).state = .offline ∧ (y (at_ .unseen 2)).miss = 0 ∧ (y (at_ .offline 3)).miss = 3 ∧
    (y (at_ .wrongRole 1)).miss = 1 ∧ (y (at_ .online 0)).reported = some 4 ∧ (y (at_ .online 0)).lastOutcome = some .badFrame := by
  decide +kernel

/-- The third miss of a fan node, of a pump node and of the bypass node, each with a command queued (R72, R105, R131, R146, R156). -/
theorem witness_lost_commands :
    let s := fun (n : NodeId) (sv : Service) => ({ withCoil 1 fun x => { x with service := sv } with
      bus := { plant.bus with flight := some ⟨.poller, .read, n, 1, 0, 40⟩, routine := [⟨n, 30, 0⟩, ⟨4, 20, 0⟩] } }).modNode n fun e =>
        { e with state := .suspect, miss := 2 }
    let t := fun n sv => after (exec .replyWindowExpiry (s n sv))
    reachable (s 6 .isolated) = true ∧ (∀ pt ∈ (s 6 .isolated).cfg.points, pt.node ≠ 6) ∧ Settings.timesBound (s 6 .isolated).cfg 6 ≤ 1 ∧
    (s 6 .isolated).bus.queued 6 = true ∧ ((t 6 .isolated).coils[(1 : CoilId)]).service = .faulted .node ∧
    (∀ q ∈ (t 6 .isolated).bus.routine, q.node ≠ 6) ∧
    ((t 6 .out).coils[(1 : CoilId)]).service = .out ∧ ((t 6 .out).coils[(1 : CoilId)]).fanUnsent = true ∧
    ((t 7 .out).coils[(1 : CoilId)]).valveUnsent = true ∧ ((t 2 .isolated).loops[(0 : LoopId)]).bypassUnsent = true ∧
    ((t 1 .isolated).loops[(0 : LoopId)]).pumpB = ⟨true, false, true⟩ := by decide +kernel

/-- The return of N2 (pump B), N3 (the bypass), N7 (C1's fan) and N8 (C1's valve), OFFLINE till then, by an IDENT (R72, R131). -/
theorem witness_returned_nodes :
    let f := fun n : NodeId => (⟨.poller, .ident, n, 0, 0, 40⟩ : Flight)
    let s := fun (n : NodeId) (sv : Service) (byp : Nat) => (((flying (f n)).modLoop 0 fun x =>
      { x with pumpB := ⟨true, true, true⟩, bypass := byp, bypassUnsent := true }).modCoil 1 fun x =>
        { x with service := sv, desiredFan := 0, desiredValve := some 0, fanUnsent := true, valveUnsent := true }).modNode n fun e =>
          { e with state := .offline, miss := 3 }
    let back := fun (n : NodeId) (code : BitVec 16) (s : State) => after (exec (.replyFrame (frame n 3 0 code)) s)
    let none_ := fun (byp : Nat) => (s 2 .out byp).modCoil 0 fun x => { x with service := .isolated }
    (s 1 .out 30).bus.lost = [] ∧ replyResult (f 1) (frame 1 3 0 3) = ⟨.good, some .accept, some 3⟩ ∧ roleMatches .pump 3 = true ∧
    Settings.timesBound plant.cfg 1 ≤ 1 ∧ Settings.timesBound plant.cfg 6 ≤ 1 ∧ (∀ q ∈ (s 1 .out 30).bus.urgent, q.node ≠ 1) ∧
    (((back 1 3 (s 1 .out 30)).loops[(0 : LoopId)]).pumpB = ⟨true, true, false⟩ ∧ (back 1 3 (s 1 .out 30)).bus.routine = [⟨1, 1, 0⟩]) ∧
    (((back 2 2 (s 2 .out 30)).loops[(0 : LoopId)]).bypassUnsent = false ∧ (back 2 2 (s 2 .out 30)).bus.routine = [⟨2, 30, 0⟩] ∧
      (back 2 2 (s 2 .out 100)).bus.routine = [⟨2, 100, 0⟩] ∧ (back 2 2 (none_ 100)).bus.urgent = [⟨2, 100, 0⟩]) ∧
    (((back 6 1 (s 6 .out 30)).coils[(1 : CoilId)]).fanUnsent = false ∧ (back 6 1 (s 6 .out 30)).bus.routine = [⟨6, 0, 0⟩] ∧
      ((back 6 1 (s 6 .out 30)).coils[(1 : CoilId)]).valveUnsent = true) ∧
    (((back 7 2 (s 7 .out 30)).coils[(1 : CoilId)]).valveUnsent = false ∧ (back 7 2 (s 7 .out 30)).bus.routine = [⟨7, 0, 0⟩] ∧
      (back 7 2 (s 7 (.faulted .node) 30)).coils = (s 7 (.faulted .node) 30).coils) := by decide +kernel

/-- A granted command that gets no reply, or a line error: it waits again at the tail of its queue, unless a newer value waits or it left
RUN (R155). -/
theorem witness_failed_commands_wait_again :
    let s := fun (lapsed : Bool) (q : List Entry) => (flying ⟨.command .urgent 2 lapsed, .write, 4, 0, 30, 40⟩).modBus fun b =>
      { b with urgent := q }
    let shadow := fun t : State => (t.nodes[(4 : NodeId)]).shadow.state
    (s false []).bus.lost = [] ∧ (s false []).bus.queued 4 = false ∧ (s false [⟨4, 20, 0⟩]).bus.queued 4 = true ∧
    (plant.nodes[(4 : NodeId)]).state ≠ .suspect ∧
    ∀ i ∈ [Instr.replyWindowExpiry, .echoMismatch],
      (after (exec i (s false [⟨6, 0, 0⟩]))).bus.urgent = [⟨6, 0, 0⟩, ⟨4, 30, 0⟩] ∧ shadow (after (exec i (s false []))) = .queued ∧
      (after (exec i (s false [⟨4, 20, 1⟩]))).bus.urgent = [⟨4, 20, 1⟩] ∧ shadow (after (exec i (s false [⟨4, 20, 1⟩]))) = .queued ∧
      (after (exec i (s true []))).bus.urgent = [] ∧ shadow (after (exec i (s true []))) = .settled := by decide +kernel

/-- A reply of N4 to the read of its point 2: -22.0 is TRIP for C0 under the default levels (R195, R111). -/
theorem witness_RepliesActOnNodesPointsAndShadows :
    let f : Flight := ⟨.poller, .read, 3, 2, 0, 40⟩
    let body : List Byte := [4#8, 1#8, 0#8, 0xFF#8, 0x24#8]
    let c := crc16 body
    let bytes := body ++ [c.extractLsb' 8 8, c.extractLsb' 0 8]
    (flying f).bus.flight = some f ∧ crc16 body = c.extractLsb' 8 8 ++ c.extractLsb' 0 8 ∧ f.kind ≠ .ident ∧
    (0xFF#8 ++ 0x24#8 : BitVec 16).toInt = -220 ∧
    (let t := after (exec (.replyFrame bytes) (flying f))
     ((t.nodes[(3 : NodeId)]).points)[(2 : Fin 4)] = ⟨some (-220), some 100, .fresh⟩ ∧ (t.frost[(0 : CoilId)]).state = .trip) ∧
    ((after (exec (.replyFrame (0#8 :: bytes.drop 1)) (flying f))).nodes[(3 : NodeId)]).lastOutcome = some .badFrame := by
  decide +kernel

/-- The reply to a granted write of N5, accepted and refused. -/
theorem witness_granted_command_replies :
    let f : Flight := ⟨.command .routine 1 false, .write, 4, 0, 30, 40⟩
    let reply := fun (st : Byte) =>
      let body : List Byte := [5#8, 2#8, st, 0#8, 30#8]
      body ++ [(crc16 body).extractLsb' 8 8, (crc16 body).extractLsb' 0 8]
    (flying f).bus.queued 4 = false ∧
    ((after (exec (.replyFrame (reply 0)) (flying f))).nodes[(4 : NodeId)]).shadow = { desired := none, sent := some 30, state := .settled } ∧
    (after (exec (.replyFrame (reply 1)) (flying f))).bus.routine = [⟨4, 30, 2⟩] ∧
    (after (exec (.replyFrame ((reply 1).map fun _ => 0#8)) (flying f))).bus.routine = [⟨4, 30, 0⟩] := by decide +kernel

/-- A third refusal of the command to the fan node of C0, to its valve node in OUT, to the bypass, to the duty pump, and to a node nobody
owns; a refusal with a newer value behind it, and one from a SUSPECT node; a third miss with a command granted (R155, R156). -/
theorem witness_third_refusal :
    let s := fun (n : NodeId) (k : Nat) => flying ⟨.command .urgent k false, .write, n, 0, 30, 40⟩
    let refuse := fun (n : NodeId) (s : State) => after (exec (.replyFrame (frame n 2 1 30)) s)
    let garble := fun (n : NodeId) (s : State) => after (exec (.replyFrame (frame n 1 1 30)) s)
    let out := (s 5 2).modCoil 0 fun x => { x with service := .out }
    let behind := (s 4 2).modBus fun b => { b with routine := [⟨4, 20, 0⟩] }
    let shaky := fun k => (s 4 0).modNode 4 fun e => { e with state := .suspect, miss := k }
    (s 4 2).bus.lost = [] ∧ AllReachable (s 4 2) ∧ (plant.cfg.nodes[(5 : NodeId)]).role ≠ .none ∧
    (s 4 2).ownerOf 4 = some (.coilFan 0) ∧ (s 4 2).ownerOf 5 = some (.coilValve 0) ∧ (s 4 2).ownerOf 2 = some (.bypass 0) ∧
    (s 4 2).ownerOf 0 = some (.pump 0 .a) ∧ (s 3 2).ownerOf 3 = none ∧
    ((refuse 4 (s 4 2)).coils[(0 : CoilId)]).service = .faulted .lost ∧ Source.coil ∈ (refuse 4 (s 4 2)).notice.pending ∧
    ((refuse 5 out).coils[(0 : CoilId)]).valveUnsent = true ∧ ((refuse 2 (s 2 2)).loops[(0 : LoopId)]).bypassUnsent = true ∧
    ((refuse 0 (s 0 2)).loops[(0 : LoopId)]).pumpA.faulted = true ∧ ((refuse 0 (s 0 2)).loops[(0 : LoopId)]).pumpA.unsent = true ∧
    ((refuse 3 (s 3 2)).nodes[(3 : NodeId)]).shadow.state = .settled ∧ (refuse 3 (s 3 2)).bus.urgent = [] ∧
    (refuse 3 (s 3 2)).trace = ((s 3 2).event (.point 3 0) .commandLost [("cause", .word "REFUSED")]).trace ∧
    ((refuse 4 behind).nodes[(4 : NodeId)]).shadow.state = .queued ∧ (refuse 4 behind).bus.routine = [⟨4, 20, 0⟩] ∧
    (refuse 4 behind).bus.urgent = [] ∧ (refuse 4 (shaky 2)).bus.urgent = [⟨4, 30, 1⟩] ∧ (garble 4 (shaky 1)).bus.urgent = [⟨4, 30, 0⟩] ∧
    ((garble 4 (shaky 2)).nodes[(4 : NodeId)]).state = .offline ∧ (∀ e ∈ (garble 4 (shaky 2)).bus.urgent, e.node ≠ 4) ∧
    (let lapsed := flying ⟨.command .urgent 0 true, .write, 4, 0, 30, 40⟩
     ((refuse 4 lapsed).nodes[(4 : NodeId)]).shadow.state = .settled ∧ (refuse 4 lapsed).bus.urgent = []) :=
  ⟨by decide +kernel, allReachable_of (by decide +kernel), by decide +kernel⟩

theorem witness_BusTimersAndThePoller :
    let spaced := fun r => withBus fun b => { b with poller := ⟨r, .spacing 0, 0, 0⟩ }
    (let s := withBus fun b => { b with line := .down 0, lineErrors := 3 }
     s.bus.lost = [] ∧ (after (exec .busDownExpiry s)).bus.line = .up ∧ (after (exec .busDownExpiry s)).notice.pending = [.bus]) ∧
    pollAt 0 (plant.cfg.nodes[(0 : NodeId)]) .online 0 = some (.read, 1) ∧
    (after (exec .roundStart (spaced 7))).bus.poller = ⟨7, .waiting, 0, 0⟩ ∧
    (after (exec .roundStart ({ spaced 7 with cfg := .default }))).bus.poller = ⟨0, .spacing 1, 0, 0⟩ ∧
    (let s := { plant with uptime := 121 }
     leaves (exec (.pointStale 3 0) { plant with uptime := 120 }) { plant with uptime := 120 } = true ∧
     (((after (exec (.pointStale 3 0) s)).nodes[(3 : NodeId)]).points)[(0 : Fin 4)] = ⟨some 120, some 90, .stale⟩) := by decide +kernel

/-- N7, a fan's node that has gone OFFLINE after its first read, is made ONLINE by a pass-through IDENT: it is not read again in the round.
Before its turn, or after it, the poller stands where it stood (R147). -/
theorem witness_a_turn_broken_off :
    let f : Flight := ⟨.pass, .ident, 6, 0, 0, 40⟩
    let at_ := fun (node step : Nat) => ((flying f).modBus fun b =>
      { b with pass := .inFlight ⟨.ident, 6, 0, 0⟩, poller := ⟨3, .waiting, node, step⟩ }).modNode 6 fun e =>
        { e with state := .offline, miss := 3 }
    let t := fun (node step : Nat) => after (exec (.replyFrame (frame 6 3 0 1)) (at_ node step))
    let next := fun (s : State) => s.nextPoll.map fun x => (x.1, x.2.1)
    (at_ 6 1).bus.lost = [] ∧ f.src ≠ .poller ∧ replyResult f (frame 6 3 0 1) = ⟨.good, some .accept, some 1⟩ ∧
    (plant.cfg.nodes[(6 : NodeId)]).role ≠ .none ∧ roleMatches (plant.cfg.nodes[(6 : NodeId)]).role 1 = true ∧
    ((t 6 1).nodes[(6 : NodeId)]).state = .online ∧ (t 6 1).bus.poller = ⟨3, .waiting, 7, 0⟩ ∧ next (t 6 1) = some (7, 0) ∧
    (t 6 0).bus.poller = ⟨3, .waiting, 6, 0⟩ ∧ next (t 6 0) = some (6, 0) ∧ (t 5 1).bus.poller = ⟨3, .waiting, 5, 1⟩ ∧
    (t 7 1).bus.poller = ⟨3, .waiting, 7, 1⟩ := by decide +kernel

theorem witness_PassThroughRequests :
    let rd := [kv "node" "N31", kv "point" "3"]
    let wr := [kv "node" "N5", kv "point" "0", kv "value" "-100"]
    Ready plant ∧ badArgOrdered (passKeys (some .read)) (kv "kind" "READ" :: rd) = none ∧
    badArgOrdered (passKeys (some .write)) (kv "kind" "WRITE" :: wr) = none ∧
    badArgOrdered (passKeys (some .ident)) [kv "kind" "IDENT", kv "node" "N1"] = none ∧
    argOf (kv "kind" "READ" :: rd) "node" = some (nodeName 30) ∧
    (argOf (kv "kind" "WRITE" :: wr) "value").bind readInt = some (-100) ∧ plant.ownerOf 4 = some (.coilFan 0) ∧
    said (exec (.busPassWrite wr) plant) = [.reply "BUS_PASS" .refused [("why", .word "OWNED")] none] ∧
    (after (exec (.busPassWrite wr) bench)).bus.pass = .waiting ⟨.write, 4, 0, -100⟩ 2 ∧
    (after (exec (.busPassRead rd) plant)).bus.pass = .waiting ⟨.read, 30, 3, 0⟩ 2 ∧
    (after (exec (.busPassIdent [kv "node" "N1"]) plant)).bus.pass = .waiting ⟨.ident, 0, 0, 0⟩ 2 ∧
    said (exec .passWaitTimeout (withBus fun b => { b with pass := .waiting ⟨.read, 0, 1, 0⟩ 0 })) =
      [.reply "BUS_PASS" .timeout [] none] ∧
    said (exec .replyWindowExpiry ((flying ⟨.pass, .read, 3, 1, 0, 40⟩).modBus fun b => { b with pass := .inFlight ⟨.read, 3, 1, 0⟩ })) =
      [.reply "BUS_PASS" .ok [("outcome", .word "TIMEOUT"), ("status", .unknown), ("value", .unknown)] none] :=
  ⟨ready_plant, by decide +kernel⟩

/-- The deferred reply to each kind of outcome (R158). -/
theorem witness_deferred_replies :
    let s := fun (k : TxKind) => (flying ⟨.pass, k, 3, 1, 0, 40⟩).modBus fun b => { b with pass := .inFlight ⟨k, 3, 1, 0⟩ }
    let gives := fun (k : TxKind) (i : Instr) (keys : List Field) =>
      said (exec i (s k)) = [.reply "BUS_PASS" .ok keys none] ∧ (after (exec i (s k))).bus.pass = .empty
    let keys := fun (o : String) (st v : Val) => [("outcome", Val.word o), ("status", st), ("value", v)]
    (s .read).bus.lost = [] ∧
    gives .read (.replyFrame (frame 3 1 0 0xFF24)) (keys "GOOD" (.word "ACCEPT") (.int (-220))) ∧
    gives .read (.replyFrame (frame 3 1 2 7)) (keys "GOOD" (.word "DRIVE_FAULT") (.int 7)) ∧
    gives .write (.replyFrame (frame 3 2 1 7)) (keys "REFUSED" (.word "REFUSE") (.int 7)) ∧
    gives .write (.replyFrame (frame 3 1 1 7)) (keys "BADFRAME" .unknown .unknown) ∧
    gives .write .echoMismatch (keys "LINE_ERROR" .unknown .unknown) ∧
    gives .ident (.replyFrame (frame 3 3 0 4)) (keys "GOOD" (.word "ACCEPT") (.int 4) ++ [("role", .word "SENSOR")]) ∧
    gives .ident (.replyFrame (frame 3 3 0 9)) (keys "GOOD" (.word "ACCEPT") (.int 9) ++ [("role", .int 9)]) ∧
    gives .ident (.replyFrame (frame 3 3 1 4)) (keys "REFUSED" (.word "REFUSE") (.int 4) ++ [("role", .none)]) ∧
    gives .ident .replyWindowExpiry (keys "TIMEOUT" .unknown .unknown ++ [("role", .none)]) := by decide +kernel

/-! ## Inputs, the outdoor temperature, the trace -/

/-- The example of R164: 40 edges in a gate at scale 2.5 give 960. -/
theorem witness_PulseChannelsMeasureInGates :
    let y := fun s => ((after (exec (.gateEnd 0) s)).inputs.chans)[(0 : ChanId)]
    (measuring .count 25 fun x => { x with count := 40 }).bus.lost = [] ∧
    (y (measuring .count 25 fun x => { x with count := 40 })).value = some 960 ∧
    (y (measuring .count 1 fun x => { x with count := 100 })).value = some 60000 ∧
    (y (measuring .count 1 fun x => { x with count := 101 })).status = .overrange ∧
    (y (measuring .count 10000 fun x => { x with count := 10001 })).status = .overrange ∧
    (y (measuring .count 25 fun x => { x with count := 0 })).value = some 0 ∧
    (y (measuring .period 10 fun x => { x with interval := some 100 })).value = some 100 ∧
    (y (measuring .period 10 fun x => { x with interval := some 99 })).status = .overrange ∧
    (y (measuring .period 10 fun x => { x with interval := some 10000000 })).value = some 10000000 ∧
    (y (measuring .period 10 id)).value = some 7 ∧
    (y (measuring .width 10 fun x => { x with count := 1, activeTime := 287000 })).value = some 287 ∧
    (y (measuring .width 10 fun x => { x with lastEdge := some 90000000 })).status = .silent ∧
    (after (exec (.gateEnd 0) (measuring .width 10 fun x => { x with lastEdge := some 90000000 }))).notice.pending = [.pulse] ∧
    (let t := after (exec (.pulseEdge 0 .rise 99600000) (measuring .count 25 id))
     ((t.inputs.chans)[(0 : ChanId)]).count = 1 ∧ ((t.inputs.chans)[(0 : ChanId)]).lastEdge = some 99600000) ∧
    leaves (exec (.gateEnd 1) plant) plant = true ∧
    (let early := { measuring .count 25 (fun x => { x with count := 40 }) with uptime := 99 }
     leaves (exec (.gateEnd 0) early) early = true) ∧
    (newEntries (after (exec (.gateEnd 0) (measuring .count 1 fun x => { x with count := 101 }))) =
      [.event .pulse [("old", .word "VALID"), ("new", .word "OVERRANGE"), ("value", .unknown)]]) ∧
    (let s := (measuring .width 10 fun x => { x with lastEdge := some 90000000 }).modCfg fun g =>
       { g with site := { g.site with outdoorPulse := some 0 } }
     let t := after (exec (.gateEnd 0) { s with inputs := { s.inputs with outdoor := .pulse (-593) } })
     t.inputs.outdoor = .unknown ∧ newEntries t =
       [.event .pulse [("old", .word "VALID"), ("new", .word "SILENT"), ("value", .unknown)],
        .event .input [("old", .word "PULSE"), ("new", .word "NONE"), ("value", .unknown)]]) := by decide +kernel

/-- A pin that rose at 5.3 s of a COUNT channel, a change to WIDTH in the same second, a fall at 5.6 s and a rise at 5.8 s: 0.5 s of the gate
at the active level (R163, R165). -/
theorem test_width_from_a_restart :
    let s := { plant with uptime := 5 }.modCfg fun g => { g with chans := g.chans.set 0 { ChanRec.default with mode := .count } }
    let edge := fun (e : Edge) (us : Nat) (s : State) => after (exec (.pulseEdge 0 e us) s)
    let wide := fun (s : State) => after (exec (.pulseSet [kv "channel" "P0", kv "mode" "WIDTH"]) s)
    let t := edge .rise 5800000 (edge .fall 5600000 (wide (edge .rise 5300000 s)))
    (((wide (edge .rise 4300000 s)).inputs.chans)[(0 : ChanId)]).activeSince = some 5000000 ∧
    (((after (exec (.gateEnd 0) { t with uptime := 6 })).inputs.chans)[(0 : ChanId)]).value = some 500 := by decide +kernel

/-- The gate that a restart at second 5 begins ends at second 6: a GATE_END still due from the gate before it has no effect, and a pin that
rises at 6.2 s and stays there has 0.8 s of the next gate (R163). -/
theorem test_gates_keep_to_the_seconds :
    let s := { plant with uptime := 5 }.modCfg fun g => { g with chans := g.chans.set 0 { ChanRec.default with mode := .count } }
    let gate := fun (s : State) => after (exec (.gateEnd 0) s)
    let t := gate (after (exec (.pulseSet [kv "channel" "P0", kv "mode" "WIDTH"]) s))
    let u := gate { t with uptime := 6 }
    let v := gate { after (exec (.pulseEdge 0 .rise 6200000) u) with uptime := 7 }
    ((t.inputs.chans)[(0 : ChanId)]).gateStart = 5 ∧ ((u.inputs.chans)[(0 : ChanId)]).gateStart = 6 ∧
    ((v.inputs.chans)[(0 : ChanId)]).value = some 800 := by decide +kernel

theorem witness_Contacts :
    let s := plant.modCfg fun g => { g with inputs := g.inputs.set 7 { InputRec.default with role := .plantStop } }
    let t := after (exec (.inputPinChange (.d 7) true) s)
    let fanned := t.modCoil 0 fun x => { x with desiredFan := 40 }
    s.bus.lost = [] ∧ ((t.inputs.contacts)[(7 : InputId)]) = ⟨true, false, some 50⟩ ∧
    ((after (exec (.inputPinChange (.d 7) false) t)).inputs.contacts)[(7 : InputId)] = ⟨false, false, none⟩ ∧ AllReachable fanned ∧
    (after (exec (.debounceExpiry (.d 7)) fanned)).inputs.plantStop = true ∧
    ((after (exec (.debounceExpiry (.d 7)) fanned)).coils[(0 : CoilId)]).desiredFan = 0 ∧
    (let stopped := (after (exec (.debounceExpiry (.d 7)) fanned)).modLoop 0 fun x => { x with fanStep := 8 }
     let freed := after (exec (.inputPinChange (.d 7) false) stopped)
     AllReachable freed ∧ freed.inputs.plantStop = true ∧
     (after (exec (.debounceExpiry (.d 7)) freed)).inputs.plantStop = false ∧
     ((after (exec (.debounceExpiry (.d 7)) freed)).coils[(0 : CoilId)]).desiredFan = 40) ∧
    plant.inputs.svc.timer = none ∧ plant.inputs.host = none ∧
    (let u := after (exec (.inputPinChange .svc true) plant)
     u.inputs.svc = ⟨true, false, some 200⟩ ∧ (after (exec (.debounceExpiry .svc) u)).notice.pending = [.input]) :=
  ⟨by decide +kernel, by decide +kernel, by decide +kernel, allReachable_of (by decide +kernel), by decide +kernel,
    by decide +kernel, ⟨allReachable_of (by decide +kernel), by decide +kernel⟩, by decide +kernel⟩

/-- A debounced change of D7 is traced with its state and role, and raises INPUT as its notice asks; so a shedding trigger comes after it. -/
theorem witness_contacts_are_noted :
    let settled := fun (r : InputRec) => after (exec (.debounceExpiry (.d 7))
      ((plant.modCfg fun g => { g with inputs := g.inputs.set 7 r }).modContact 7 fun _ => ⟨true, false, some 0⟩))
    let noted := fun r => (newEntries (settled r), (settled r).notice.pending)
    let entry := fun w : String => [TraceBody.event .input [("state", .word "ACTIVE"), ("role", .word w)]]
    let d := InputRec.default
    noted d = ([], []) ∧ noted { d with role := .general } = (entry "GENERAL", []) ∧
    noted { d with notice := .rise } = (entry "NONE", [.input]) ∧ noted { d with notice := .fall } = (entry "NONE", []) ∧
    noted { d with role := .plantStop, notice := .both } = (entry "PLANT_STOP", [.input]) ∧
    newEntries (after (exec (.debounceExpiry (.d 3)) (icingPlant.modContact 3 fun _ => ⟨true, false, some 0⟩))) =
      entry "SNOW_WARN" ++ [.event .coil [("detail", .word "SHED_START")]] := by decide +kernel

/-- A reading of outdoor_pt, and its fall from FRESH, change the source; the expiry of the host value is traced before it. -/
theorem witness_sources_are_noted :
    let site := (plant.modCfg fun g => { g with
      nodes := g.nodes.set 9 ⟨.sensor, 1⟩, site := { g.site with outdoorPt := some ⟨9, 0⟩ } }).modPoint 9 0 fun _ => ⟨none, none, .absent⟩
    let old := site.modPoint 9 0 fun _ => ⟨some 7, some 50, .fresh⟩
    let from_ := fun (a b : String) (v : Val) => TraceBody.event .input [("old", .word a), ("new", .word b), ("value", v)]
    Calm site ∧ Calm old ∧ soleUse site.cfg 9 0 ∧ (reading 9 0 (-40) site).1.readBy (reading 9 0 (-40) site).2 9 0 (-40) ∧
    old.agesBy (.pointStale 9 0) 9 0 ∧
    newEntries (afterReading 9 0 (-40) site) = [from_ "NONE" "POINT" (.temp (-40))] ∧
    newEntries (after (exec (.pointStale 9 0) { old with inputs := { old.inputs with outdoor := .point 7 } })) =
      [from_ "POINT" "NONE" .unknown] ∧
    (let s := after (exec (.outdoorSet [kv "value" "-5.5", kv "for" "60"]) plant)
     newEntries s = [from_ "NONE" "HOST" (.temp (-55))] ∧
     newEntries (after (exec .hostOutdoorExpiry { s with uptime := 160 })) =
       [from_ "NONE" "HOST" (.temp (-55)), .event .input [("detail", .word "HOST_EXPIRED")], from_ "HOST" "NONE" .unknown]) :=
  ⟨calm_of (by decide +kernel), calm_of (by decide +kernel), by unfold soleUse; decide +kernel,
    readBy_reading 9 0 (-40) _ (by decide +kernel) (by decide +kernel),
    ⟨0, rfl, rfl, by decide +kernel, 50, by decide +kernel, by decide +kernel⟩, by decide +kernel⟩

/-- The example of R169: WIDTH 287 is -31.3. -/
theorem witness_Outdoor :
    let args := [kv "value" "-5.5", kv "for" "60"]
    let s := after (exec (.outdoorSet args) plant)
    Ready plant ∧ badArg (outdoorKeys false) args = none ∧ badArg (outdoorKeys true) [kv "value" "none"] = none ∧
    (argOf args "value").bind readTemp = some (-55) ∧ s.inputs.host = some ⟨-55, 160⟩ ∧ s.inputs.outdoor = .host (-55) ∧
    leaves (exec .hostOutdoorExpiry { s with uptime := 159 }) { s with uptime := 159 } = true ∧
    (after (exec .hostOutdoorExpiry { s with uptime := 160 })).inputs.outdoor = .unknown ∧
    (let w := (plant.modCfg fun g => { g with site := { g.site with outdoorPulse := some 0 } }).modChan 0 fun x =>
      { x with status := .valid, value := some 287 }
     w.freshAt w.cfg.site.outdoorPt = none ∧ w.selectOutdoor = .pulse (-313)) ∧
    (let w := plant.modCfg fun g => { g with site := { g.site with outdoorPt := some ⟨3, 0⟩ } }
     w.freshAt w.cfg.site.outdoorPt = some 120 ∧ w.selectOutdoor = .point 120) :=
  ⟨ready_plant, by decide +kernel⟩

/-- A lockout released at 21005: GAP with 112 missed since 20410 at index 0 of H0, with serial 3 (11.5). -/
theorem witness_TraceHalvesAreHandedOver :
    let entry : TraceEntry := ⟨1, .part, .event .mode []⟩
    let locked : State := { plant with uptime := 21005, trace :=
      { h0 := ⟨.full, [entry], 1⟩, h1 := ⟨.full, [entry], 2⟩, next := 3, writer := .locked 20410, missed := 112 } }
    let down := fun n : Nat => ({ (withBus fun b => { b with line := .down 0 }) with
      trace := { plant.trace with h0 := ⟨.filling, List.replicate n entry, 1⟩ } } : State)
    Ready plant ∧ Ready locked ∧
    (let t := after (exec (.traceRelease [kv "half" "H0"]) locked)
     t.trace.h0 = ⟨.filling, [⟨21005, .trace, .gap 112 20410⟩], 3⟩ ∧ t.trace.next = 4 ∧ t.trace.writer = .writing .h0) ∧
    said (exec (.traceCut []) locked) = [.reply "TRACE_CUT" .refused [("why", .word "STATE")] none] ∧
    said (exec (.traceRelease [kv "half" "H0"]) plant) = [.reply "TRACE_RELEASE" .refused [("why", .word "NOT_FULL")] none] ∧
    (let t := after (exec (.traceCut []) plant)
     t.trace.h0.state = .full ∧ t.trace.writer = .writing .h1 ∧ t.trace.h1.serial = 2 ∧ t.trace.next = 3 ∧
     t.notice.pending = [.trace] ∧
     (after (exec (.traceCut []) { t with link := plant.link })).trace.writer = .locked 100 ∧
     (let u := after (exec (.traceRelease [kv "half" "H0"]) { t with link := plant.link })
      u.trace.h0 = ⟨.free, [], 1⟩ ∧ u.trace.writer = .writing .h1)) ∧
    ((down 255).trace.half .h0).entries.length = 255 ∧ (after (exec .busDownExpiry (down 255))).trace.writer = .writing .h1 ∧
    (after (exec .busDownExpiry (down 254))).trace.h0.entries.length = 255 ∧
    (after (exec .busDownExpiry { down 0 with trace := locked.trace })).trace.missed = 113 :=
  ⟨ready_plant, ready_of_free (by decide +kernel), by decide +kernel⟩

/-! ## Worked examples of the manual that no witness above shows -/

/-- R133: XOR and AND on SHED_OK and KEEPWARM_OK. -/
theorem test_amend_example :
    let s := plant.modCoilRec 0 fun r => { r with options := ⟨true, true, false⟩ }
    let args := [kv "coils" "x0001", kv "opts" "SHED_OK,REVERSE_OK", kv "mask" "SHED_OK,REVERSE_OK"]
    ((after (exec (.coilAmendXor args) s)).cfg.coils[(0 : CoilId)]).options = ⟨false, true, true⟩ ∧
    ((after (exec (.coilAmendAnd args) s)).cfg.coils[(0 : CoilId)]).options = ⟨true, true, false⟩ := by decide +kernel

/-- The word none stands among the names of loop= of COIL_MATCH alone (R135, R186). -/
theorem test_none_in_a_list :
    badArg matchKeys [kv "loop" "none,L0"] = none ∧ Form.list.accepts "SHED_OK,REVERSE_OK" = true ∧
    Form.list.accepts "none,SHED_OK" = false := by decide +kernel

/-- With three steps the positions are 33, 66 and 100 (R89). -/
theorem test_step_positions :
    let s := plant.modCfg fun g => { g with loops := g.loops.set 0 { g.loops[(0 : LoopId)] with admitSteps := 3 } }
    said (exec (.coilAdmit [kv "coil" "C1"]) s) = [.reply "COIL_ADMIT" .ok [("loop", .word "L0"), ("position", .int 33)] none] ∧
    ((after (exec (.stepDwellExpiry 1) (s.modCoil 1 fun x =>
      { x with service := .admitting 1 true false, admitTotal := 3, dwell := .running 0 }))).coils[(1 : CoilId)]).desiredValve = some 66 ∧
    ((after (exec (.stepDwellExpiry 1) (s.modCoil 1 fun x =>
      { x with service := .admitting 2 true false, admitTotal := 3, dwell := .running 0 }))).coils[(1 : CoilId)]).desiredValve = some 100 := by
  decide +kernel

/-- A commit and a segment end that fall together leave the same plan in either order (11.3). -/
theorem test_commit_meets_segment_end :
    let next : Segment := { seg with target := 110, minCoils := 1 }
    let two := (Plan.blank.slots.set 4 (some { seg with duration := 120 })).set 5 (some next)
    let s := withPlan { Plan.blank with
      slots := two, state := .active, cur := 4, last := 4, elapsed := 7200, rampStart := some 120 }
    let commit := Instr.planCommit [kv "loop" "L0", kv "last" "5"]
    let first := after (exec (.segmentEnd 0) (after (exec commit s)))
    let second := after (exec commit (after (exec (.segmentEnd 0) s)))
    first.plans = second.plans ∧ (first.plans[(0 : LoopId)]).cur = 5 ∧ (first.plans[(0 : LoopId)]).state = .active ∧
    (first.plans[(0 : LoopId)]).rampStart = some 100 ∧
    said (exec commit s) = [.reply "PLAN_COMMIT" .ok [("state", .word "ACTIVE"), ("cur", .int 4), ("last", .int 5), ("prep", .int 5),
      ("verdict", .word "PASS")] none] := by decide +kernel

/-- The step of the front command, and a word that spells none. -/
theorem test_fetch_word : leaves (step (plant.withFetchWord 16 0)) plant = true := by decide +kernel

end Sys2Proof.Tests
end

section
/-! SUPPORT. STORE_SAVE: its body while the store is free and during a save, and the statement of R17 from the two. -/

namespace Sys2Proof.Machine

/-- `exec` unfolded for STORE_SAVE. -/
theorem exec_storeSave (args : List Arg) (s : State) :
    exec (.storeSave args) s = request "STORE_SAVE" (reqStoreSave args) s := rfl

/-- STORE_SAVE takes no keys, so a line without any passes its checks (R186). -/
theorem badArg_none_of_no_keys : badArg [] [] = none := rfl

/-- With the activity IDLE the save starts (R17). -/
theorem reqStoreSave_idle {s : State} (h : s.store.saving = none) :
    reqStoreSave [] s = .done (s.startSave none) (.ok []) := by
  simp only [reqStoreSave, badArg_none_of_no_keys, checked, h, Option.isSome_none, refusedIf, Bool.false_eq_true, if_false]

/-- With the activity SAVING the request is refused before anything changes (R17). -/
theorem reqStoreSave_saving {s : State} (h : s.store.saving.isSome = true) : reqStoreSave [] s = .refuse .busy := by
  simp only [reqStoreSave, badArg_none_of_no_keys, checked, h, refusedIf, if_true]

/-- A save that starts leaves the roof bus, and so the reports on their way, as it was. -/
@[simp] theorem startSave_bus (s : State) (d : Option IdentityData) : (s.startSave d).bus = s.bus := rfl

/-- A save of the settings alone: the working copy takes autorun from the part mode and becomes the image being written; the settings
section no longer verifies, and the identity section stands (R18). -/
theorem startSave_settings (s : State) :
    s.startSave none =
      { s with
        cfg := { s.cfg with site := { s.cfg.site with autorun := decide (s.mode = .run) } }
        store :=
          { settings := .invalid
            identity := s.store.identity
            saving := some
              { settings := { s.cfg with site := { s.cfg.site with autorun := decide (s.mode = .run) } }, identity := none } } } := rfl

/-- Settles O28: the two bodies of STORE_SAVE, each taken to its reply by the rule for a request that is taken at once. -/
theorem storeSaveStartsASave : Obligations.StoreSaveStartsASave := by
  intro s ready
  constructor
  · intro idle
    have lost : (s.startSave none).bus.lost = [] := by rw [startSave_bus, ready.lost]
    rw [exec_storeSave, request_done ready (reqStoreSave_idle idle) lost, startSave_settings]
    rfl
  · intro saving
    rw [exec_storeSave, request_refuse ready (reqStoreSave_saving saving)]
    rfl

end Sys2Proof.Machine
end

section
/-! SUPPORT. The table of R111: each row of `classify` by the levels of R110, and the statement of R111 from the rows. -/

namespace Sys2Proof.Machine

variable {r : LoopRec} {f : FrostState} {v : Temp}

/-- At or below the trip level every row but that of TRIP gives TRIP, for it is their first case (R111). -/
theorem classify_of_le_tripLevel (row : f ≠ .trip) (low : v ≤ r.tripLevel) : classify r f v = .trip := by
  cases f with
  | trip => exact absurd rfl row
  | clear | watch | unknown => exact if_pos low

/-- Above the trip level the rows of CLEAR and UNKNOWN ask for the watch level alone (R111). -/
theorem classify_clear_unknown_of_tripLevel_lt (row : f = .clear ∨ f = .unknown) (above : r.tripLevel < v) :
    classify r f v = if v ≤ r.watchLevel then .watch else .clear := by
  obtain rfl | rfl := row <;> exact if_neg (not_le_of_gt above)

/-- Above the trip level the row of WATCH asks for the watch release alone (R111). -/
theorem classify_watch_of_tripLevel_lt (above : r.tripLevel < v) :
    classify r .watch v = if r.watchRelease ≤ v then .clear else .watch :=
  if_neg (not_le_of_gt above)

/-- At or above the watch release the row of TRIP gives CLEAR, for it is its first case (R111). -/
theorem classify_trip_of_watchRelease_le (released : r.watchRelease ≤ v) : classify r .trip v = .clear :=
  if_pos released

/-- Below the watch release the row of TRIP asks for the trip release alone (R111). -/
theorem classify_trip_of_lt_watchRelease (held : v < r.watchRelease) :
    classify r .trip v = if r.tripRelease ≤ v then .watch else .trip :=
  if_neg (not_le_of_gt held)

end Sys2Proof.Machine
end

section
namespace Sys2Proof.Machine

/-- Settles O49: the rows of CLEAR and UNKNOWN, of WATCH and of TRIP, each case by the order in which its row asks for the levels. -/
theorem frostIsClassifiedByTheTable : Obligations.FrostIsClassifiedByTheTable := by
  intro r v trip watch tripRelease watchRelease
  refine ⟨fun f row => ⟨?_, ?_, ?_⟩, ?_, ?_, ?_, ?_, ?_, ?_⟩
  -- CLEAR and UNKNOWN
  · intro low
    have notTrip : f ≠ .trip := by obtain rfl | rfl := row <;> decide
    exact classify_of_le_tripLevel notTrip low
  · intro aboveTrip inWatch
    exact (classify_clear_unknown_of_tripLevel_lt row aboveTrip).trans (if_pos inWatch)
  · intro aboveTrip aboveWatch
    exact (classify_clear_unknown_of_tripLevel_lt row aboveTrip).trans (if_neg (not_le_of_gt aboveWatch))
  -- WATCH
  · intro low
    exact classify_of_le_tripLevel (by decide) low
  · intro aboveTrip released
    exact (classify_watch_of_tripLevel_lt aboveTrip).trans (if_pos released)
  · intro aboveTrip held
    exact (classify_watch_of_tripLevel_lt aboveTrip).trans (if_neg (not_le_of_gt held))
  -- TRIP
  · exact classify_trip_of_watchRelease_le
  · intro held eased
    exact (classify_trip_of_lt_watchRelease held).trans (if_pos eased)
  · intro held cold
    exact (classify_trip_of_lt_watchRelease held).trans (if_neg (not_le_of_gt cold))

end Sys2Proof.Machine
end

section
/-! SUPPORT. IDENTIFY and STATUS: each key as R191 and R192 word it, and the statement of the two readings from the keys. -/

namespace Sys2Proof.Machine

/-- `exec` unfolded for IDENTIFY. -/
theorem exec_identify (args : List Arg) (s : State) : exec (.identify args) s = request "IDENTIFY" (reqIdentify args) s := rfl

/-- `exec` unfolded for STATUS. -/
theorem exec_status (args : List Arg) (s : State) : exec (.status args) s = request "STATUS" (reqStatus args) s := rfl

/-! ## The values of the keys -/

/-- A notice set stands as the list of its names, in the order it is held, and as none where it is empty (R192). -/
theorem sourcesVal_eq (xs : List Source) : sourcesVal xs = if xs = [] then .none else .words (xs.map Source.name) := by
  cases xs with
  | nil => rfl
  | cons x xs => rfl

/-- SVC is ACTIVE while its debounced level is low (R168). -/
theorem activeName_svcActive (s : State) :
    activeName s.svcActive = if s.inputs.svc.debounced = false then "ACTIVE" else "INACTIVE" := by
  unfold State.svcActive
  cases s.inputs.svc.debounced with
  | false => rfl
  | true => rfl

/-- The activity is SAVING while an image is being written, and IDLE otherwise (R17). -/
theorem saveActivity_eq (s : State) :
    (if s.store.saving.isSome = true then "SAVING" else "IDLE") = if s.store.saving = none then "IDLE" else "SAVING" := by
  cases s.store.saving with
  | none => rfl
  | some image => rfl

/-- One key for each loop, in the order of the loops (R192). -/
theorem loopStates_eq (s : State) :
    allLoops.map (fun l => (loopName l, Val.word (s.loops[l]).state.name)) =
      [("L0", .word (s.loops[0]).state.name), ("L1", .word (s.loops[1]).state.name), ("L2", .word (s.loops[2]).state.name),
       ("L3", .word (s.loops[3]).state.name)] := rfl

/-! ## The two readings -/

/-- The keys of IDENTIFY (R191): an empty site, or an absent cabinet, is none. -/
def State.identifyKeys (s : State) : List Field :=
  [("vendor", .word "BREVOLD"), ("part", .word "PB-416"), ("rev", .word Config.revision),
   ("site", if s.identity.data.site = "" then .none else .word s.identity.data.site),
   ("cabinet", match s.identity.data.cabinet with
      | none => .none
      | some n => .int n),
   ("identity", .word (if s.identity.set = true then "SET" else "BLANK"))]

/-- The keys of STATUS, in the order of the table of R192. -/
def State.statusKeys (s : State) : List Field :=
  [("mode", .word s.mode.name), ("store", .word s.store.settings.name),
   ("save", .word (if s.store.saving = none then "IDLE" else "SAVING")),
   ("identity", .word (if s.identity.set = true then "SET" else "BLANK")),
   ("svc", .word (if s.inputs.svc.debounced = false then "ACTIVE" else "INACTIVE")),
   ("L0", .word (s.loops[0]).state.name), ("L1", .word (s.loops[1]).state.name), ("L2", .word (s.loops[2]).state.name),
   ("L3", .word (s.loops[3]).state.name), ("bus", .word (if s.bus.line = .up then "UP" else "DOWN")),
   ("pending", if s.notice.pending = [] then .none else .words (s.notice.pending.map Source.name)),
   ("enabled", if s.notice.enabled = [] then .none else .words (s.notice.enabled.map Source.name)),
   ("h0", .word s.trace.h0.state.name), ("h1", .word s.trace.h1.state.name), ("uptime", .int s.uptime)]

/-- IDENTIFY without keys passes its check, and reads the identity record without a change: the cabinet by its two
cases, the site by its emptiness (R191). -/
theorem reqIdentify_reads (s : State) : reqIdentify [] s = .done s (.ok s.identifyKeys) := by
  simp only [reqIdentify, badArg_none_of_no_keys, checked, State.identifyKeys, String.isEmpty_iff]
  cases s.identity.data.cabinet with
  | none => rfl
  | some n => rfl

/-- STATUS without keys passes its check, and reads the part without a change: the roof bus's line by its two cases, the other
keys by their values above (R192). -/
theorem reqStatus_reads (s : State) : reqStatus [] s = .done s (.ok s.statusKeys) := by
  simp only [reqStatus, badArg_none_of_no_keys, checked, State.statusKeys, sourcesVal_eq, activeName_svcActive, loopStates_eq,
    saveActivity_eq]
  cases s.bus.line with
  | up => rfl
  | down left => rfl

/-- Settles O16: each of the two is a request that is taken at once and performed on the state as it stands, so that the reply with its
keys is all that joins it. -/
theorem identifyAndStatusDescribeThePart : Obligations.IdentifyAndStatusDescribeThePart := by
  constructor
  · intro s ready
    rw [exec_identify, request_done ready (reqIdentify_reads s) ready.lost]
    rfl
  · intro s ready sources
    rw [exec_status, request_done ready (reqStatus_reads s) ready.lost]
    rfl

end Sys2Proof.Machine
end
